-- ==== Sys2Proof/Word.lean ====
section
/-! DEFINITION. The plain value types of the DPC: bytes, host words and digital levels (00_scope.md R8, R9). -/

namespace Sys2Proof

/-- A byte: a wire byte, a framebuffer cell, ARG.VAL (R8, R9, R24). -/
abbrev Byte := BitVec 8

/-- A host register or host access value, 32 bits (R8, R22). -/
abbrev Word := BitVec 32

/-- The level of a digital line: `false` is level 0, `true` is level 1 (R34, R37). -/
abbrev Level := Bool

end Sys2Proof
end

