-- ==== Sys2Proof/Syntax.lean ====
section
/-! DEFINITION. The operations the host can issue: one constructor per mnemonic of spec/opcode_table.json (30_encoding.md R91, R92). -/

namespace Sys2Proof

/-- The operations of R91. An operation word holds no operand (R90): operands come from ARG, CANVAS and the
framebuffer. The eight reserved rows of the table share the mnemonic ILLEGAL and the rule R92; the constructor
keeps the code, because `Issue(opc)` records it (R40). -/
inductive Instr where
  /-- ILLEGAL, a reserved OPC: 0x0 or 0x9 to 0xF (R92). -/
  | illegal (opc : BitVec 4)
  /-- INIT, OPC 0x1 (R160). -/
  | init
  /-- CMD, OPC 0x2 (R180). -/
  | cmd
  /-- DATA, OPC 0x3 (R181). -/
  | data
  /-- WAIT_IDLE, OPC 0x4 (R182). -/
  | waitIdle
  /-- RENDER, OPC 0x5 (R190). -/
  | render
  /-- REFRESH, OPC 0x6 (R196). -/
  | refresh
  /-- CLEAR, OPC 0x7 (R199). -/
  | clear
  /-- SLEEP, OPC 0x8 (R210). -/
  | sleep
  deriving DecidableEq, Repr

end Sys2Proof
end

