-- ==== Sys2Proof/WellFormed.lean ====
section
/-! DEFINITION. Which terms of Instr stand for a row of the opcode table (30_encoding.md R91, R92). -/

namespace Sys2Proof

/-- The reserved operation codes: 0x0 and 0x9 to 0xF (R92). -/
def reservedOpc (opc : BitVec 4) : Bool :=
  opc == 0x0#4 || decide (0x9#4 ≤ opc)

/-- A term is well-formed when it is a row of the table: `illegal` carries a reserved code only. -/
def Instr.wf : Instr → Bool
  | .illegal opc => reservedOpc opc
  | .init | .cmd | .data | .waitIdle | .render | .refresh | .clear | .sleep => true

end Sys2Proof
end

