-- ==== Sys2Proof/Decode.lean ====
section
/-! DEFINITION. Decoding of the operation word and its encoder (30_encoding.md R90 to R93), with the byte layout
of a 4-byte host write (20_memory.md R63). -/

namespace Sys2Proof

/-- The operation code of a word written to OP: bits 3:0 (R90). -/
def opcOf (v : Word) : BitVec 4 := v.extractLsb' 0 4

/-- The row of R91 that an operation code selects; every reserved code is ILLEGAL (R92). -/
def decodeOpc (opc : BitVec 4) : Instr :=
  match opc.toNat with
  | 1 => .init
  | 2 => .cmd
  | 3 => .data
  | 4 => .waitIdle
  | 5 => .render
  | 6 => .refresh
  | 7 => .clear
  | 8 => .sleep
  | _ => .illegal opc

/-- Decoding of a 32-bit word written to OP is total and ignores bits 31:4 (R93). -/
def decodeWord (v : Word) : Instr := decodeOpc (opcOf v)

/-- Why a list of bytes is no operation word. -/
inductive DecodeError where
  /-- Fewer than four bytes: OP is written by a 4-byte access only (R62, R90). -/
  | tooShort
  deriving DecidableEq, Repr

/-- The four bytes of a host word, the lowest address first (R63). -/
def leBytes (v : Word) : List Byte :=
  [v.extractLsb' 0 8, v.extractLsb' 8 8, v.extractLsb' 16 8, v.extractLsb' 24 8]

/-- The host word of four bytes, the lowest address first (R63). -/
def leWord (b0 b1 b2 b3 : Byte) : Word := b3 ++ b2 ++ b1 ++ b0

/-- Decoding of a byte list: the operation of its first four bytes and the rest of the list, or a rejection by name. -/
def decodeBytes : List Byte → Except DecodeError (Instr × List Byte)
  | b0 :: b1 :: b2 :: b3 :: rest => .ok (decodeWord (leWord b0 b1 b2 b3), rest)
  | _ => .error .tooShort

/-- The operation code of an instruction (R91). -/
def Instr.opc : Instr → BitVec 4
  | .illegal opc => opc
  | .init => 0x1#4
  | .cmd => 0x2#4
  | .data => 0x3#4
  | .waitIdle => 0x4#4
  | .render => 0x5#4
  | .refresh => 0x6#4
  | .clear => 0x7#4
  | .sleep => 0x8#4

/-- The operation word of an instruction with given ignored bits 31:4 (R90). -/
def encodeWith (i : Instr) (ign : BitVec 28) : Word := ign ++ i.opc

/-- The operation word of an instruction, ignored bits zero, as the programs of R101 write it. -/
def encode (i : Instr) : Word := encodeWith i 0#28

/-- What the decoder reads from an instruction whose bits are `w` (bit 0 the least significant bit of the word),
laid out as the four bytes of a host write; the bits above `nbits` are zero. -/
def decodeTableWord (nbits w : Nat) : Option Instr :=
  match decodeBytes (leBytes (BitVec.ofNat 32 (w % 2 ^ nbits))) with
  | .ok (i, _) => some i
  | .error _ => none

end Sys2Proof
end

