-- ==== Sys2Proof/Config.lean ====
section
/-! DEFINITION. What an implementation of the DPC fixes (00_scope.md R7, 10_state.md R39), and the free values:
constants without a body, so that nothing can be proved of what they are. The default values stand in
Sys2Proof/Machine/Params.lean. -/

namespace Sys2Proof

/-- One entry of the init table: a command byte and its data bytes (R97). -/
structure InitEntry where
  cmd  : Byte
  data : List Byte
  deriving DecidableEq, Repr

/-- The configuration of R7: fixed for the life of a model instance (R39). -/
structure Config where
  /-- `CMD_POWER_ON` (R99). -/
  cmdPowerOn : Byte
  /-- `CMD_POWER_OFF` (R99). -/
  cmdPowerOff : Byte
  /-- `CMD_DEEP_SLEEP` (R99). -/
  cmdDeepSleep : Byte
  /-- `CMD_DTM`, "start data transmission" (R99). -/
  cmdDtm : Byte
  /-- `CMD_REFRESH` (R99). -/
  cmdRefresh : Byte
  /-- `INIT_TABLE` (R97). -/
  initTable : List InitEntry
  /-- `BUS_CLOCK_HZ`. -/
  busClockHz : Nat
  /-- `BUS_MODE`, 0 to 3. -/
  busMode : Fin 4
  /-- `BUSY_IDLE_LEVEL`: the busy level that means idle (R37). -/
  busyIdleLevel : Level
  /-- `BUSY_TIMEOUT_POLLS`: none is the reference behaviour (R148). -/
  busyTimeoutPolls : Option Nat
  /-- `TICK_HZ`, the clock of the delay timer (R235). -/
  tickHz : Nat
  /-- `HOST_BASE`, the address of the host window (R22). -/
  hostBase : Nat
  deriving DecidableEq, Repr

/-- FREE VALUE. `env.open_result()` (R236) for the n-th open whose answer the state does not list. -/
opaque Config.openResult : Nat → Bool

/-- FREE VALUE. `env.write_result(bytes)` (R236) for the n-th write whose answer the state does not list. -/
opaque Config.writeResult : Nat → List Byte → Bool

/-- FREE VALUE. `env.busy_level()` (R236) for the n-th sample of PollIdle whose level the state does not list. -/
opaque Config.busyLevel : Nat → Level

/-- FREE VALUE. `env.busy_level()` (R37) for the n-th read of STATUS whose level the state does not list. -/
opaque Config.busyInLevel : Nat → Level

/-- FREE VALUE. How many steps the host takes before the sequencer's next step, where both could move and the state's
schedule does not say; the n-th such number (20_memory.md R74: any number, but a number). -/
opaque Config.hostTurns : Nat → Nat

end Sys2Proof
end

