-- ==== Sys2Proof/Machine/Params.lean ====
section
/-! DEFINITION. The fixed constants (00_scope.md R5, R6), the default configuration (R7, R98, R99) and the
constraints on a configuration (R7, R97). -/

namespace Sys2Proof.Machine

/-- `EPD_WIDTH` (R5). -/
def epdWidth : Nat := 800
/-- `EPD_HEIGHT` (R5). -/
def epdHeight : Nat := 480
/-- `NPIX` = 800 · 480 (R5). -/
def npix : Nat := 384000
/-- `FRAME_BYTES` = NPIX / 2 (R5). -/
def frameBytes : Nat := 192000
/-- `INIT_TABLE_LEN` (R5). -/
def initTableLen : Nat := 19
/-- `DEEP_SLEEP_DATA` (R5). -/
def deepSleepData : Byte := 0xA5#8
/-- `REFRESH_DATA` (R5). -/
def refreshData : Byte := 0x00#8
/-- `POWER_OFF_DATA` (R5). -/
def powerOffData : Byte := 0x00#8

/-- `T_RST_HI1`, ms (R5). -/
def tRstHi1 : Nat := 20
/-- `T_RST_LO`, ms (R5). -/
def tRstLo : Nat := 2
/-- `T_RST_HI2`, ms (R5). -/
def tRstHi2 : Nat := 20
/-- `T_SETTLE`, ms (R6). -/
def tSettle : Nat := 30
/-- `T_POLL`, ms (R6). -/
def tPoll : Nat := 5
/-- `T_SLEEP`, ms (R6). -/
def tSleep : Nat := 2000

/-- The default `INIT_TABLE`, entries 0 to 9 (R98). -/
def defaultInitTableLow : List InitEntry :=
  [ ⟨0xAA#8, [0x49#8, 0x55#8, 0x20#8, 0x08#8, 0x09#8, 0x18#8]⟩,
    ⟨0x01#8, [0x3F#8, 0x00#8, 0x32#8, 0x2A#8, 0x0E#8, 0x2A#8]⟩,
    ⟨0x00#8, [0x5F#8, 0x69#8]⟩,
    ⟨0x03#8, [0x00#8, 0x54#8, 0x00#8, 0x44#8]⟩,
    ⟨0x05#8, [0x40#8, 0x1F#8, 0x1F#8, 0x2C#8]⟩,
    ⟨0x06#8, [0x6F#8, 0x1F#8, 0x1F#8, 0x22#8]⟩,
    ⟨0x08#8, [0x6F#8, 0x1F#8, 0x1F#8, 0x22#8]⟩,
    ⟨0x13#8, [0x00#8, 0x04#8]⟩,
    ⟨0x30#8, [0x3C#8]⟩,
    ⟨0x41#8, [0x00#8]⟩ ]

/-- The default `INIT_TABLE`, entries 10 to 18 (R98). -/
def defaultInitTableHigh : List InitEntry :=
  [ ⟨0x50#8, [0x3F#8]⟩,
    ⟨0x60#8, [0x02#8, 0x00#8]⟩,
    ⟨0x61#8, [0x03#8, 0x20#8, 0x01#8, 0xE0#8]⟩,
    ⟨0x82#8, [0x1E#8]⟩,
    ⟨0x84#8, [0x00#8]⟩,
    ⟨0x86#8, [0x00#8]⟩,
    ⟨0xE3#8, [0x2F#8]⟩,
    ⟨0xE0#8, [0x00#8]⟩,
    ⟨0xE6#8, [0x00#8]⟩ ]

/-- PRESUMED (log entry 5). The configuration with the default of every parameter of R7. The spec leaves
BUSY_TIMEOUT_POLLS, TICK_HZ and HOST_BASE open: none (the reference behaviour), 1000 and 0 are a DESIGN CHOICE. -/
def defaultConfig : Config where
  cmdPowerOn := 0x04#8
  cmdPowerOff := 0x02#8
  cmdDeepSleep := 0x07#8
  cmdDtm := 0x10#8
  cmdRefresh := 0x12#8
  initTable := defaultInitTableLow ++ defaultInitTableHigh
  busClockHz := 4000000
  busMode := 0
  busyIdleLevel := true
  busyTimeoutPolls := none
  tickHz := 1000
  hostBase := 0

/-- The data of a resolution entry: 800 and 480 as big-endian 16-bit fields (R97, R64(c)). -/
def resolutionData : List Byte := [0x03#8, 0x20#8, 0x01#8, 0xE0#8]

/-- The five named command codes (R99). -/
def commandCodes (c : Config) : List Byte :=
  [c.cmdPowerOn, c.cmdPowerOff, c.cmdDeepSleep, c.cmdDtm, c.cmdRefresh]

/-- The constraints of R7 and R97 on a configuration. -/
def configOk (c : Config) : Bool :=
  decide (commandCodes c).Nodup
    && (c.initTable.length == initTableLen)
    && c.initTable.any (fun e => e.data == resolutionData)
    && decide (0 < c.busClockHz)
    && (match c.busyTimeoutPolls with
        | none => true
        | some n => decide (1 ≤ n))
    && decide (1000 ≤ c.tickHz)
    && decide (c.hostBase % 0x100000 = 0)

end Sys2Proof.Machine
end

