-- ==== Sys2Proof/Machine/State.lean ====
section
/-! DEFINITION. The machine's state as plain data: everything the spec gives the DPC (10_state.md), the
configuration, and the model's own fields for the host, the panel and the schedule. -/

namespace Sys2Proof.Machine

/-- The internal FSM state (R30). -/
inductive Fsm where
  | uninit
  | poweredUp
  | idle
  | asleep
  deriving DecidableEq, Repr

/-- The error kinds of STATUS.ERR (R220); the codes 6 and 7 are never produced. -/
inductive Err where
  | noError
  | dimensionMismatch
  | paletteMismatch
  | busIOFailure
  | sequenceError
  | illegalOp
  deriving DecidableEq, Repr

/-- The position within an operation's pseudocode (R36): one value per step. -/
inductive Pc where
  /-- The n-th step of the operation's own rule. -/
  | rule (n : Nat)
  /-- The n-th step of the shared sequence Refresh() (R197). -/
  | handshake (n : Nat)
  /-- At a `raise E(d)` that a failed primitive reached (R226): its `Done` is the next step. -/
  | abort (e : Err) (d : BitVec 2)
  deriving DecidableEq, Repr

/-- The output lines of R34. -/
inductive Line where
  | pwr
  | rst
  | dc
  deriving DecidableEq, Repr

/-- The events of the log (R40). -/
inductive Event where
  /-- `Line(L, b)`. -/
  | line (l : Line) (b : Level)
  /-- `Open(clk, mode, ok)`. -/
  | opened (clk : Nat) (mode : Fin 4) (ok : Bool)
  /-- `Write(dc, bytes, ok)`. -/
  | write (dc : Level) (bytes : List Byte) (ok : Bool)
  /-- `Close`. -/
  | close
  /-- `Delay(ms)`. -/
  | delay (ms : Nat)
  /-- `Poll(b)`. -/
  | poll (b : Level)
  /-- `Issue(opc)`. -/
  | issue (opc : BitVec 4)
  /-- `Done(err, detail)`. -/
  | done (err : Err) (detail : BitVec 2)
  /-- `BlockReset`. -/
  | blockReset
  deriving DecidableEq, Repr

/-- What a legal host access names (R22, R62): a register, or the framebuffer from a cell on. -/
inductive Target where
  | op
  | arg
  | canvas
  | status
  | errinfo
  | fb (cell : Nat)
  deriving DecidableEq, Repr

/-- One item of the host's program, in the notation of R101. -/
inductive HostItem where
  /-- `HostWrite(addr, n, v)` (R10). -/
  | write (addr n : Nat) (v : Word)
  /-- `HostRead(addr, n)` (R10). -/
  | read (addr n : Nat)
  /-- `wait`: read STATUS until ACTIVE = 0 (R101, R72). -/
  | wait
  deriving DecidableEq, Repr

/-- How the last host access was answered. -/
inductive Resp where
  /-- No access has been made. -/
  | none
  /-- A write was answered without an error: stored, ignored or dropped (R27, R29). -/
  | written
  /-- A read was answered with a value. -/
  | value (v : Word)
  /-- Host access fault of a write (R65). -/
  | writeFault
  /-- Host access fault of a read: it returns a value with the error (R65). -/
  | readFault (v : Word)
  /-- The address lies outside the DPC's window: whatever answers is not the DPC (log entry 10). -/
  | elsewhere
  deriving DecidableEq, Repr

/-- One entry of the schedule: who moves in a step (R74, R250). -/
inductive Turn where
  /-- The host, if it has an item left; else the sequencer. -/
  | host
  /-- The sequencer, if an operation is active; else the host. -/
  | dpc
  /-- The block reset, with the framebuffer contents it leaves (R250, R251). -/
  | blockReset (contents : List Host.Cell)
  deriving DecidableEq, Repr

/-- The panel as environment (R236): answers listed to come, and how many free answers were drawn after them. -/
structure Env where
  opens   : List Bool
  writes  : List Bool
  polls   : List Level
  busyIns : List Level
  nOpen   : Nat
  nWrite  : Nat
  nPoll   : Nat
  nBusyIn : Nat
  deriving DecidableEq, Repr

/-- Why the machine stops with a fault. Both stops are safe: no state that a run from a good state reaches meets one
(Sys2Proof/Safety.lean, State.Inv). -/
inductive Fault where
  /-- Raised by every meaning: the sequencer position is no step of the operation's rule. Safe: the model stops. -/
  | noSuchStep
  /-- Raised by INIT: the configuration's init table lacks the entry or the data byte to send, against R97.
  Safe: the model stops. -/
  | noTableEntry
  deriving DecidableEq, Repr

/-- Why an instruction has no meaning. Safe: the model stops. -/
inductive Refusal where
  /-- Raised by exec's arm of an instruction that has no meaning yet. Safe. No arm of this model raises it. -/
  | notModelled (mnemonic : String)
  deriving DecidableEq, Repr

structure State where
  /-- The configuration (R39). No step changes it. -/
  cfg : Config
  /-- ARG.VAL (R24). -/
  argVal : Byte
  /-- CANVAS.W (R25). -/
  canvasW : BitVec 16
  /-- CANVAS.H (R25). -/
  canvasH : BitVec 16
  /-- STATUS.ERR (R41, R220). -/
  err : Err
  /-- STATUS.DETAIL (R41, R221). -/
  detail : BitVec 2
  /-- STATUS.REJ (R27). -/
  rej : Bool
  /-- ERRINFO.PIX (R28). -/
  errinfo : BitVec 19
  /-- The FSM (R30). -/
  fsm : Fsm
  /-- STATUS.ACTIVE (R43). -/
  active : Bool
  /-- The PWR output (R34). -/
  pwr : Level
  /-- The RST output (R34). -/
  rst : Level
  /-- The DC output (R34). -/
  dc : Level
  /-- The bus is open (R35). -/
  busOpen : Bool
  /-- The operation being executed, as its operation code (R36, R43). -/
  op : BitVec 4
  /-- The sequencer's position (R36). -/
  pc : Pc
  /-- Init-table entry index (R36). -/
  i : Nat
  /-- Data-byte index within the entry (R36). -/
  j : Nat
  /-- Pixel-pair index (R36). -/
  k : Nat
  /-- Pixel index of the validation pass (R36). -/
  p : Nat
  /-- Busy samples seen in the current PollIdle (R36). -/
  n : Nat
  /-- SLEEP's deferred failure (R36, R211; log entry 23). -/
  errPending : Bool
  /-- The operand byte that CMD, DATA and CLEAR read in their first step (R180, R181, R199; log entry 7). -/
  opnd : Byte
  /-- Ticks the delay timer counted for the last delay (R147, R235); 0 after reset: idle. -/
  timer : Nat
  /-- The framebuffer, as listed cells (R38, R60); see Memory.read for an unlisted one. -/
  fb : List Host.Cell
  /-- The event log, oldest first (R40). -/
  log : List Event
  /-- The panel's answers (R236). -/
  env : Env
  /-- The host's accesses still to be made, in program order (R71). -/
  hostProg : List HostItem
  /-- The answer to the last host access. -/
  resp : Resp
  /-- Who moves next, in order (R74). -/
  sched : List Turn
  /-- How many free numbers of host steps have been used up. -/
  turns : Nat
  /-- The host's steps left before the sequencer's next one, past the end of the schedule, once the host has taken some
  of them (R74). -/
  hostLeft : Option Nat
  deriving DecidableEq, Repr

/-- No answer listed: every draw is a free value. -/
def Env.free : Env := ⟨[], [], [], [], 0, 0, 0, 0⟩

/-- The machine right after a block reset (R42, R252), with the default configuration (log entry 5), nothing listed
in the framebuffer (log entry 4), an empty log (log entry 17), no host program and no schedule (log entry 2). -/
def State.reset : State where
  cfg := defaultConfig
  argVal := 0#8
  canvasW := 0#16
  canvasH := 0#16
  err := .noError
  detail := 0#2
  rej := false
  errinfo := 0#19
  fsm := .uninit
  active := false
  pwr := false
  rst := false
  dc := false
  busOpen := false
  op := 0#4
  pc := .rule 0
  i := 0
  j := 0
  k := 0
  p := 0
  n := 0
  errPending := false
  opnd := 0#8
  timer := 0
  fb := []
  log := []
  env := Env.free
  hostProg := []
  resp := .none
  sched := []
  turns := 0
  hostLeft := none

end Sys2Proof.Machine
end

