-- ==== Sys2Proof/Machine/Flags.lean ====
section
/-! DEFINITION. The condition flags and the STATUS register: error codes (60_exceptions.md R220, R221), the reported
state (10_state.md R33) and the assembled register (R26). -/

namespace Sys2Proof.Machine

/-- The code of an error kind in STATUS.ERR (R220). -/
def Err.code : Err → BitVec 3
  | .noError => 0#3
  | .dimensionMismatch => 1#3
  | .paletteMismatch => 2#3
  | .busIOFailure => 3#3
  | .sequenceError => 4#3
  | .illegalOp => 5#3

/-- DETAIL: `BusOpen` returned false (R221). -/
def openFailed : BitVec 2 := 0#2
/-- DETAIL: a `BusWrite` returned false (R221). -/
def writeFailed : BitVec 2 := 1#2
/-- DETAIL: an operation needing the bus found it closed (R221). -/
def notOpen : BitVec 2 := 2#2
/-- DETAIL: `PollIdle` saw `BUSY_TIMEOUT_POLLS` busy samples (R221). -/
def busyTimeout : BitVec 2 := 3#2

/-- The encoding of an FSM state other than S_BUSY in STATUS.STATE (R30). -/
def Fsm.code : Fsm → BitVec 3
  | .uninit => 0#3
  | .poweredUp => 1#3
  | .idle => 2#3
  | .asleep => 4#3

/-- The reported STATUS.STATE: S_BUSY while an operation issued from S_IDLE is active (R33). -/
def State.reportedState (s : State) : BitVec 3 :=
  if s.active && decide (s.fsm = .idle) then 3#3 else s.fsm.code

/-- A flag as one bit. -/
def bit (b : Bool) : BitVec 1 := BitVec.ofBool b

/-- The value of STATUS when the busy input reads `busyIn` (R26). From bit 31 down: reserved, BUSY_IN, BUS_OPEN, DC,
RST, PWR, REJ, reserved 14:10, DETAIL, reserved 7, ERR, ACTIVE, STATE. -/
def State.statusWord (s : State) (busyIn : Level) : Word :=
  0#11 ++ bit busyIn ++ bit s.busOpen ++ bit s.dc ++ bit s.rst ++ bit s.pwr ++ bit s.rej ++ 0#5 ++ s.detail
    ++ 0#1 ++ s.err.code ++ bit s.active ++ s.reportedState

/-- The value of ERRINFO (R28). -/
def State.errinfoWord (s : State) : Word := 0#13 ++ s.errinfo

/-- The value of ARG: bits 31:8 read 0 (R24). -/
def State.argWord (s : State) : Word := 0#24 ++ s.argVal

/-- The value of CANVAS: H above W (R25). -/
def State.canvasWord (s : State) : Word := s.canvasH ++ s.canvasW

end Sys2Proof.Machine
end

