-- ==== Sys2Proof/Machine/Ops.lean ====
section
/-! DEFINITION. The named operations over the framebuffer, the lines, the bus, the busy input, the delay timer and
the log (20_memory.md, 41_bus_primitives.md), and the abort and completion of an operation (60_exceptions.md R226,
R229). Each primitive appends one event (00_scope.md R11). -/

namespace Sys2Proof.Machine

/-- How an operation's step ends. -/
abbrev Result := Host.Outcome State Fault Refusal

/-! ## Framebuffer (R60) -/

/-- What a cell that is not listed reads as. DESIGN CHOICE (log entry 4): the spec leaves the contents after a reset
open (R251); every contents is some list of cells, and a block reset may leave any. -/
def unlistedCell : Byte := 0#8

/-- FB[a]. -/
def Memory.read (m : List Host.Cell) (a : Nat) : Byte :=
  match m with
  | [] => unlistedCell
  | c :: r => if c.1 = a then c.2 else Memory.read r a

/-- FB[a] <- v, keeping the canonical form. -/
def Memory.write (m : List Host.Cell) (a : Nat) (v : Byte) : List Host.Cell :=
  match m with
  | [] => if v = unlistedCell then [] else [(a, v)]
  | c :: r =>
    if a < c.1 then (if v = unlistedCell then c :: r else (a, v) :: c :: r)
    else if a = c.1 then (if v = unlistedCell then r else (a, v) :: r)
    else c :: Memory.write r a v

/-- The canonical form from address `lo` on: addresses strictly rising, below NPIX, no cell listed that holds what an
unlisted cell reads as. -/
def Memory.wfFrom (lo : Nat) : List Host.Cell → Bool
  | [] => true
  | c :: r => decide (lo ≤ c.1) && decide (c.1 < npix) && decide (c.2 ≠ unlistedCell) && Memory.wfFrom (c.1 + 1) r

/-- The framebuffer has its canonical form. -/
def Memory.wf (m : List Host.Cell) : Bool := Memory.wfFrom 0 m

/-- The framebuffer with the contents of a list of cells: later cells win, addresses that are no cell are left out. -/
def Memory.ofCells (cells : List Host.Cell) : List Host.Cell :=
  cells.foldl (fun m c => if c.1 < npix then Memory.write m c.1 c.2 else m) []

/-- An n-byte host write at cell a, little-endian: FB[a+m] <- v[8m+7:8m] for m < n (R63). -/
def Memory.writeBytes (m : List Host.Cell) (a : Nat) (v : Word) : Nat → List Host.Cell
  | 0 => m
  | n + 1 => Memory.write (Memory.writeBytes m a v n) (a + n) (v.extractLsb' (8 * n) 8)

/-- An n-byte host read at cell a, little-endian: the sum of FB[a+m] << 8m for m < n (R63). -/
def Memory.readBytes (m : List Host.Cell) (a : Nat) : Nat → Word
  | 0 => 0#32
  | n + 1 => Memory.readBytes m a n ||| ((Memory.read m (a + n)).setWidth 32 <<< (8 * n))

/-! ## Panel answers (R236): listed answers first, then free values -/

/-- `env.open_result()`. -/
def Env.drawOpen (e : Env) : Bool × Env :=
  match e.opens with
  | b :: bs => (b, { e with opens := bs })
  | [] => (Config.openResult e.nOpen, { e with nOpen := e.nOpen + 1 })

/-- `env.write_result(bytes)`. -/
def Env.drawWrite (e : Env) (bytes : List Byte) : Bool × Env :=
  match e.writes with
  | b :: bs => (b, { e with writes := bs })
  | [] => (Config.writeResult e.nWrite bytes, { e with nWrite := e.nWrite + 1 })

/-- `env.busy_level()` for a sample of PollIdle. -/
def Env.drawPoll (e : Env) : Level × Env :=
  match e.polls with
  | b :: bs => (b, { e with polls := bs })
  | [] => (Config.busyLevel e.nPoll, { e with nPoll := e.nPoll + 1 })

/-- `env.busy_level()` for a read of STATUS.BUSY_IN (R37). -/
def Env.drawBusyIn (e : Env) : Level × Env :=
  match e.busyIns with
  | b :: bs => (b, { e with busyIns := bs })
  | [] => (Config.busyInLevel e.nBusyIn, { e with nBusyIn := e.nBusyIn + 1 })

/-! ## Log and position -/

/-- `emit ev` (R10, R40). -/
def State.emit (s : State) (e : Event) : State := { s with log := s.log ++ [e] }

/-- The sequencer's next position: `pc <- target` (R10, R36). -/
def State.goto (s : State) (pc : Pc) : State := { s with pc := pc }

/-! ## Lines and bus -/

/-- `SetLine(L, b)` (R140). -/
def State.setLine (s : State) (l : Line) (b : Level) : State :=
  match l with
  | .pwr => { s with pwr := b }.emit (.line .pwr b)
  | .rst => { s with rst := b }.emit (.line .rst b)
  | .dc => { s with dc := b }.emit (.line .dc b)

/-- `BusOpen()` (R141): the answer and the state after it. -/
def State.busOpenOp (s : State) : Bool × State :=
  let d := s.env.drawOpen
  let s' := { s with env := d.2 }.emit (.opened s.cfg.busClockHz s.cfg.busMode d.1)
  (d.1, if d.1 then { s' with busOpen := true } else s')

/-- `BusWrite(bytes)` (R142): the answer and the state after it. -/
def State.busWrite (s : State) (bytes : List Byte) : Bool × State :=
  let d := s.env.drawWrite bytes
  (d.1, { s with env := d.2 }.emit (.write s.dc bytes d.1))

/-- `BusClose()` (R149). -/
def State.busClose (s : State) : State := { s.emit .close with busOpen := false }

/-- `SampleBusy()` (R146): the level and the state after it. -/
def State.sampleBusy (s : State) : Level × State :=
  let d := s.env.drawPoll
  (d.1, { s with env := d.2 }.emit (.poll d.1))

/-- The ticks that the delay timer counts for t ms: ceil(t · TICK_HZ / 1000) (R147). -/
def delayTicks (c : Config) (t : Nat) : Nat := (t * c.tickHz + 999) / 1000

/-- `Delay(t)` (R147): one step, recorded by its minimum; no time is carried. -/
def State.delay (s : State) (t : Nat) : State := { s.emit (.delay t) with timer := delayTicks s.cfg t }

/-! ## Abort and completion -/

/-- Completion: emit Done(ERR, DETAIL), active <- 0 (R43, R229). DESIGN CHOICE (log entry 23): the hidden registers of R36,
don't-care from here on, keep their values. -/
def State.complete (s : State) : State := { s.emit (.done s.err s.detail) with active := false }

/-- `raise E(d)`: abort the operation (R226). This is the DPC's exception entry: ERR and DETAIL are written, `Done` is
appended, the operation is no longer active, and nothing is rolled back. There is no return from it (R229). -/
def State.raise (s : State) (e : Err) (d : BitVec 2) : State := { s with err := e, detail := d }.complete

/-! ## Composite primitives as single steps -/

/-- The write step of SendCommand, SendData and SendBulk (R143 to R145): on a failure the sequencer stands at the raise
of BusIOFailure(WRITE_FAILED), else at `next`. -/
def State.sendStep (s : State) (bytes : List Byte) (next : Pc) : State :=
  let r := s.busWrite bytes
  if r.1 then r.2.goto next else r.2.goto (.abort .busIOFailure writeFailed)

/-- A sample step of PollIdle (R148): leave at `exit` when the sample reads idle; otherwise count it and raise
BusIOFailure(BUSY_TIMEOUT) at the N-th busy sample, or delay at `wait`. With no timeout `n` is not kept (R70). -/
def State.pollStep (s : State) (wait exit : Pc) : State :=
  let r := s.sampleBusy
  if r.1 = s.cfg.busyIdleLevel then r.2.goto exit
  else
    match s.cfg.busyTimeoutPolls with
    | none => r.2.goto wait
    | some limit =>
      if limit ≤ s.n + 1 then { r.2 with n := s.n + 1 }.goto (.abort .busIOFailure busyTimeout)
      else { r.2 with n := s.n + 1 }.goto wait

/-- The first sample step of PollIdle: `n <- 0`, then sample (R148). -/
def State.pollStart (s : State) (wait exit : Pc) : State := { s with n := 0 }.pollStep wait exit

/-- The delay step of PollIdle, then the sample at `again` (R148). -/
def State.pollWait (s : State) (again : Pc) : State := (s.delay tPoll).goto again

/-- `BusGate()` (R183): with the bus closed, raise BusIOFailure(NOT_OPEN) with no panel event; else go on. -/
def State.gated (s : State) (go : State → State) : State :=
  if s.busOpen then go s else s.raise .busIOFailure notOpen

end Sys2Proof.Machine
end

