-- ==== Sys2Proof/Machine/Operands.lean ====
section
/-! DEFINITION. Operand assembly (30_encoding.md R100), the palette (R94), the wire packer, the fill generator and the
framebuffer reader (40_wire_packer.md R120 to R127). -/

namespace Sys2Proof.Machine

/-- The colours of the palette, in index order (R94). -/
inductive Colour where
  | black
  | white
  | green
  | blue
  | red
  | yellow
  | orange
  deriving DecidableEq, Repr

/-- The colour that a cell value names; 7 and above are invalid (R94). -/
def colourOf (v : Byte) : Option Colour :=
  match v.toNat with
  | 0 => some .black
  | 1 => some .white
  | 2 => some .green
  | 3 => some .blue
  | 4 => some .red
  | 5 => some .yellow
  | 6 => some .orange
  | _ => none

/-- `valid(v)`: a palette index (R120). -/
def valid (v : Byte) : Bool := decide (v ≤ 6#8)

/-- The index of pixel (x, y) (R60). -/
def cellIndex (x y : Nat) : Nat := y * epdWidth + x

/-- The pixel of a cell index (R60). -/
def pixelOf (a : Nat) : Nat × Nat := (a % epdWidth, a / epdWidth)

/-- The nibble of a palette index: bits 3:0. -/
def nibble (v : Byte) : BitVec 4 := v.extractLsb' 0 4

/-- Lane 0 of a packed byte: bits 7:4, the even-index pixel (R127). -/
def lane0 (b : Byte) : BitVec 4 := b.extractLsb' 4 4

/-- Lane 1 of a packed byte: bits 3:0, the odd-index pixel (R127). -/
def lane1 (b : Byte) : BitVec 4 := b.extractLsb' 0 4

/-- One packed byte: `(first << 4) | second`, the first pixel in the high nibble (R96). -/
def packPair (first second : Byte) : Byte := nibble first ++ nibble second

/-- Why `pack` rejects (R121). -/
inductive PackError where
  | oddLength
  | paletteMismatch (i : Nat)
  deriving DecidableEq, Repr

/-- The lowest index, from `i` on, of a value that is no palette index. -/
def firstInvalidFrom (i : Nat) : List Byte → Option Nat
  | [] => none
  | v :: r => if valid v then firstInvalidFrom (i + 1) r else some i

/-- The packed bytes of a pixel sequence, two at a time (R121). -/
def packPairs : List Byte → List Byte
  | a :: b :: r => packPair a b :: packPairs r
  | _ => []

/-- `pack(s)` (R121); OddLength is reported before PaletteMismatch. -/
def pack (s : List Byte) : Except PackError (List Byte) :=
  if s.length % 2 = 1 then .error .oddLength
  else
    match firstInvalidFrom 0 s with
    | some i => .error (.paletteMismatch i)
    | none => .ok (packPairs s)

/-- `unpack(b)` (R124). The DPC implements none; it states the round trip of `pack`. -/
def unpack : List Byte → List Byte
  | [] => []
  | b :: r => (lane0 b).setWidth 8 :: (lane1 b).setWidth 8 :: unpack r

/-! The four definitions below run over the whole framebuffer; they are irreducible so that no tactic unfolds them by
itself (the kernel evaluates them as it does any definition). -/

/-- The pixel sequence FB[0], …, FB[383999] (R60). -/
@[irreducible] def cells (m : List Host.Cell) : List Byte := (List.range npix).map (Memory.read m)

/-- `frame(FB)`: the packed frame stream of 192000 bytes (R122). -/
@[irreducible] def frame (m : List Host.Cell) : List Byte :=
  (List.range frameBytes).map (fun k => packPair (Memory.read m (2 * k)) (Memory.read m (2 * k + 1)))

/-- `fill(c)`: 192000 bytes with both nibbles c (R125). -/
@[irreducible] def fill (c : Byte) : List Byte := List.replicate frameBytes (packPair c c)

/-- Pass 1 of the framebuffer reader (R126, R191): the lowest cell index whose value is invalid. -/
@[irreducible] def firstInvalidCell (m : List Host.Cell) : Option Nat :=
  (List.range npix).find? (fun p => !valid (Memory.read m p))

/-- `CANVAS` declares exactly 800×480 (R100, R190). -/
def State.canvasMatches (s : State) : Bool :=
  decide (s.canvasW = 800#16) && decide (s.canvasH = 480#16)

end Sys2Proof.Machine
end

