-- ==== Sys2Proof/Machine/Frame.lean ====
section
/-! DEFINITION. The frame operations RENDER, REFRESH, CLEAR and their shared handshake (44_frame_ops.md R190 to R199). -/

namespace Sys2Proof.Machine

/-- One step of `Refresh()` (R197): POWER_ON and a poll, REFRESH with its data byte and a poll, POWER_OFF with its data
byte and a poll; after it the operation is at its end and completes. -/
def handshakeStep (s : State) (n : Nat) : Result :=
  match n with
  | 0 => .next ((s.setLine .dc false).goto (.handshake 1))
  | 1 => .next (s.sendStep [s.cfg.cmdPowerOn] (.handshake 2))
  | 2 => .next (s.pollStart (.handshake 3) (.handshake 5))
  | 3 => .next (s.pollWait (.handshake 4))
  | 4 => .next (s.pollStep (.handshake 3) (.handshake 5))
  | 5 => .next ((s.setLine .dc false).goto (.handshake 6))
  | 6 => .next (s.sendStep [s.cfg.cmdRefresh] (.handshake 7))
  | 7 => .next ((s.setLine .dc true).goto (.handshake 8))
  | 8 => .next (s.sendStep [refreshData] (.handshake 9))
  | 9 => .next (s.pollStart (.handshake 10) (.handshake 12))
  | 10 => .next (s.pollWait (.handshake 11))
  | 11 => .next (s.pollStep (.handshake 10) (.handshake 12))
  | 12 => .next ((s.setLine .dc false).goto (.handshake 13))
  | 13 => .next (s.sendStep [s.cfg.cmdPowerOff] (.handshake 14))
  | 14 => .next ((s.setLine .dc true).goto (.handshake 15))
  | 15 => .next (s.sendStep [powerOffData] (.handshake 16))
  | 16 => .next (s.pollStart (.handshake 17) (.handshake 19))
  | 17 => .next (s.pollWait (.handshake 18))
  | 18 => .next (s.pollStep (.handshake 17) (.handshake 19))
  | 19 => .next s.complete
  | _ => .fault .noSuchStep

/-- Pass 1 of RENDER (R191): the palette check of every cell in increasing order. The first invalid index goes to
ERRINFO.PIX with PaletteMismatch; p is left at the last cell read. -/
def State.validated (s : State) (go : State → State) : State :=
  match firstInvalidCell s.fb with
  | some p => { s with p := p, errinfo := BitVec.ofNat 19 p }.raise .paletteMismatch 0#2
  | none => go { s with p := npix - 1 }

/-- RENDER (R190), one step of its rule at the sequencer's position. -/
def execRender (s : State) : Result :=
  match s.pc with
  | .rule 0 =>
    if s.canvasMatches then
      .next (s.validated fun t => t.gated fun u => (u.setLine .dc false).goto (.rule 1))
    else .next (s.raise .dimensionMismatch 0#2)
  | .rule 1 => .next (s.sendStep [s.cfg.cmdDtm] (.rule 2))
  | .rule 2 => .next ((s.setLine .dc true).goto (.rule 3))
  | .rule 3 => .next ({ s with k := frameBytes - 1 }.sendStep (frame s.fb) (.handshake 0))
  | .handshake n => handshakeStep s n
  | .abort e d => .next (s.raise e d)
  | .rule _ => .fault .noSuchStep

/-- REFRESH (R196), one step of its rule at the sequencer's position: the gate, then the handshake's steps. -/
def execRefresh (s : State) : Result :=
  match s.pc with
  | .rule 0 => .next (s.gated fun t => (t.setLine .dc false).goto (.handshake 1))
  | .handshake n => handshakeStep s n
  | .abort e d => .next (s.raise e d)
  | .rule _ => .fault .noSuchStep

/-- CLEAR (R199), one step of its rule at the sequencer's position. -/
def execClear (s : State) : Result :=
  match s.pc with
  | .rule 0 =>
    if valid s.argVal then
      .next ({ s with opnd := s.argVal }.gated fun t => (t.setLine .dc false).goto (.rule 1))
    else .next ({ s with opnd := s.argVal }.raise .paletteMismatch 0#2)
  | .rule 1 => .next (s.sendStep [s.cfg.cmdDtm] (.rule 2))
  | .rule 2 => .next ((s.setLine .dc true).goto (.rule 3))
  | .rule 3 => .next (s.sendStep (fill s.opnd) (.handshake 0))
  | .handshake n => handshakeStep s n
  | .abort e d => .next (s.raise e d)
  | .rule _ => .fault .noSuchStep

end Sys2Proof.Machine
end

