-- ==== Sys2Proof/Machine/Illegal.lean ====
section
/-! DEFINITION. The reserved operation codes (30_encoding.md R92, 60_exceptions.md R222). -/

namespace Sys2Proof.Machine

/-- ILLEGAL: raises IllegalOp at its first step, with no panel event (R92, R222). The operation code is in the log
already, from the issue. -/
def execIllegal (_opc : BitVec 4) (s : State) : Result :=
  match s.pc with
  | .rule 0 => .next (s.raise .illegalOp 0#2)
  | .rule _ | .handshake _ | .abort _ _ => .fault .noSuchStep

end Sys2Proof.Machine
end

