-- ==== Sys2Proof/Machine/Init.lean ====
section
/-! DEFINITION. INIT: power-up, reset pulse, register sequencer (42_initialize.md R160 to R168). -/

namespace Sys2Proof.Machine

/-- `fsm ∈ {POWERED_UP, IDLE}`: a session is live (R31, R223). -/
def State.sessionLive (s : State) : Bool :=
  match s.fsm with
  | .poweredUp | .idle => true
  | .uninit | .asleep => false

/-- After the last byte of entry i: the next entry, or the end of the table after entry 18 (R166). -/
def State.initNextEntry (s : State) : State :=
  if s.i + 1 < initTableLen then { s with i := s.i + 1 }.goto (.rule 12) else s.goto (.rule 16)

/-- SendCommand(INIT_TABLE[i].cmd), its write: on success the first data byte of the entry, or the next entry if it
has none (R166). -/
def State.initCommand (s : State) (e : InitEntry) : State :=
  let r := s.busWrite [e.cmd]
  if r.1 then
    (if e.data.isEmpty then r.2.initNextEntry else { r.2 with j := 0 }.goto (.rule 14))
  else r.2.goto (.abort .busIOFailure writeFailed)

/-- SendData(INIT_TABLE[i].data[j]), its write: on success the next data byte of the entry, or the next entry (R166). -/
def State.initData (s : State) (e : InitEntry) (b : Byte) : State :=
  let r := s.busWrite [b]
  if r.1 then
    (if s.j + 1 < e.data.length then { r.2 with j := s.j + 1 }.goto (.rule 14) else r.2.initNextEntry)
  else r.2.goto (.abort .busIOFailure writeFailed)

/-- The bus open of INIT (R162). -/
def State.initOpen (s : State) : State :=
  let r := s.busOpenOp
  if r.1 then r.2.goto (.rule 2) else r.2.goto (.abort .busIOFailure openFailed)

/-- INIT (R160), one step of its rule at the sequencer's position. -/
def execInit (s : State) : Result :=
  match s.pc with
  | .rule 0 =>
    if s.sessionLive then .next (s.raise .sequenceError 0#2)
    else .next (({ s with fsm := .poweredUp }.setLine .pwr true).goto (.rule 1))
  | .rule 1 => .next s.initOpen
  | .rule 2 => .next ((s.setLine .rst true).goto (.rule 3))
  | .rule 3 => .next ((s.delay tRstHi1).goto (.rule 4))
  | .rule 4 => .next ((s.setLine .rst false).goto (.rule 5))
  | .rule 5 => .next ((s.delay tRstLo).goto (.rule 6))
  | .rule 6 => .next ((s.setLine .rst true).goto (.rule 7))
  | .rule 7 => .next ((s.delay tRstHi2).goto (.rule 8))
  | .rule 8 => .next (s.pollStart (.rule 9) (.rule 11))
  | .rule 9 => .next (s.pollWait (.rule 10))
  | .rule 10 => .next (s.pollStep (.rule 9) (.rule 11))
  | .rule 11 => .next ({ s.delay tSettle with i := 0 }.goto (.rule 12))
  | .rule 12 => .next ((s.setLine .dc false).goto (.rule 13))
  | .rule 13 =>
    match s.cfg.initTable[s.i]? with
    | some e => .next (s.initCommand e)
    | none => .fault .noTableEntry
  | .rule 14 => .next ((s.setLine .dc true).goto (.rule 15))
  | .rule 15 =>
    match s.cfg.initTable[s.i]? with
    | some e =>
      match e.data[s.j]? with
      | some b => .next (s.initData e b)
      | none => .fault .noTableEntry
    | none => .fault .noTableEntry
  | .rule 16 => .next { s with fsm := .idle }.complete
  | .abort e d => .next (s.raise e d)
  | .rule _ | .handshake _ => .fault .noSuchStep

end Sys2Proof.Machine
end

