-- ==== Sys2Proof/Machine/Raw.lean ====
section
/-! DEFINITION. The raw operations CMD, DATA, WAIT_IDLE (43_raw_ops.md R180 to R183). -/

namespace Sys2Proof.Machine

/-- CMD (R180), one step of its rule at the sequencer's position. -/
def execCmd (s : State) : Result :=
  match s.pc with
  | .rule 0 => .next ({ s with opnd := s.argVal }.gated fun t => (t.setLine .dc false).goto (.rule 1))
  | .rule 1 => .next (s.sendStep [s.opnd] (.rule 2))
  | .rule 2 => .next s.complete
  | .abort e d => .next (s.raise e d)
  | .rule _ | .handshake _ => .fault .noSuchStep

/-- DATA (R181), one step of its rule at the sequencer's position. -/
def execData (s : State) : Result :=
  match s.pc with
  | .rule 0 => .next ({ s with opnd := s.argVal }.gated fun t => (t.setLine .dc true).goto (.rule 1))
  | .rule 1 => .next (s.sendStep [s.opnd] (.rule 2))
  | .rule 2 => .next s.complete
  | .abort e d => .next (s.raise e d)
  | .rule _ | .handshake _ => .fault .noSuchStep

/-- WAIT_IDLE (R182), one step of its rule at the sequencer's position. -/
def execWaitIdle (s : State) : Result :=
  match s.pc with
  | .rule 0 => .next (s.gated fun t => t.pollStart (.rule 1) (.rule 3))
  | .rule 1 => .next (s.pollWait (.rule 2))
  | .rule 2 => .next (s.pollStep (.rule 1) (.rule 3))
  | .rule 3 => .next s.complete
  | .abort e d => .next (s.raise e d)
  | .rule _ | .handshake _ => .fault .noSuchStep

end Sys2Proof.Machine
end

