-- ==== Sys2Proof/Machine/Sleep.lean ====
section
/-! DEFINITION. SLEEP: deep sleep and session teardown (45_sleep.md R210 to R213). -/

namespace Sys2Proof.Machine

/-- The write of TryCommand or TryData in SLEEP (R152, R211): a failure is recorded and the teardown follows.
DESIGN CHOICE (log entry 23): err_pending is set in the step of the failed write itself. -/
def State.tryStep (s : State) (bytes : List Byte) (next : Pc) : State :=
  let r := s.busWrite bytes
  if r.1 then r.2.goto next else { r.2 with errPending := true }.goto (.rule 5)

/-- SLEEP's last step (R210, R211): fsm <- ASLEEP, the deferred failure is reported, the operation completes.
DESIGN CHOICE (log entry 23): err_pending and pc keep their values after Done, where R36 calls them don't-care. -/
def State.sleepEnd (s : State) : State :=
  if s.errPending then { s with fsm := .asleep, err := .busIOFailure, detail := writeFailed }.complete
  else { s with fsm := .asleep }.complete

/-- SLEEP (R210), one step of its rule at the sequencer's position. -/
def execSleep (s : State) : Result :=
  match s.pc with
  | .rule 0 =>
    if s.sessionLive then
      (if s.busOpen then .next (({ s with errPending := false }.setLine .dc false).goto (.rule 1))
       else .next (({ s with errPending := false }.setLine .rst false).goto (.rule 7)))
    else .next (s.raise .sequenceError 0#2)
  | .rule 1 => .next (s.tryStep [s.cfg.cmdDeepSleep] (.rule 2))
  | .rule 2 => .next ((s.setLine .dc true).goto (.rule 3))
  | .rule 3 => .next (s.tryStep [deepSleepData] (.rule 4))
  | .rule 4 => .next ((s.delay tSleep).goto (.rule 5))
  | .rule 5 => .next (s.busClose.goto (.rule 6))
  | .rule 6 => .next ((s.setLine .rst false).goto (.rule 7))
  | .rule 7 => .next ((s.setLine .dc false).goto (.rule 8))
  | .rule 8 => .next ((s.setLine .pwr false).goto (.rule 9))
  | .rule 9 => .next s.sleepEnd
  | .rule _ | .handshake _ | .abort _ _ => .fault .noSuchStep

end Sys2Proof.Machine
end

