-- ==== Sys2Proof/Machine/Dispatch.lean ====
section
/-! DEFINITION. One step of the sequencer for the operation `i`: each arm calls that operation's meaning, which takes
the step of its rule at which the sequencer stands (10_state.md R36, R43). -/

namespace Sys2Proof.Machine

def exec (i : Instr) (s : State) : Host.Outcome State Fault Refusal :=
  match i with
  | .illegal opc => Sys2Proof.Machine.execIllegal opc s
  | .init => Sys2Proof.Machine.execInit s
  | .cmd => Sys2Proof.Machine.execCmd s
  | .data => Sys2Proof.Machine.execData s
  | .waitIdle => Sys2Proof.Machine.execWaitIdle s
  | .render => Sys2Proof.Machine.execRender s
  | .refresh => Sys2Proof.Machine.execRefresh s
  | .clear => Sys2Proof.Machine.execClear s
  | .sleep => Sys2Proof.Machine.execSleep s

end Sys2Proof.Machine
end

