-- ==== Sys2Proof/Machine/HostPort.lean ====
section
/-! DEFINITION. The host port: legal accesses, register and framebuffer accesses, the issue of an operation, the block
reset (10_state.md R22 to R29, R43; 20_memory.md R61 to R67; 70_reset_and_hazards.md R250). -/

namespace Sys2Proof.Machine

/-- The first offset past the framebuffer window: 0x80000 + 384000 (R22). -/
def fbWindowEnd : Nat := 0xDDC00

/-- The byte offset of an address from HOST_BASE, if it lies in the 1 MiB host window (R8, R22, R61). -/
def windowOffset (c : Config) (addr : Nat) : Option Nat :=
  if c.hostBase ≤ addr ∧ addr < c.hostBase + 0x100000 then some (addr - c.hostBase) else none

/-- What an n-byte access at an offset of the window names, if it is legal (R22, R62): a register by a 4-byte access at
its offset, or the framebuffer by a naturally aligned access of 1, 2 or 4 bytes inside its window. -/
def hostTarget (off n : Nat) : Option Target :=
  if off = 0x00000 ∧ n = 4 then some .op
  else if off = 0x00004 ∧ n = 4 then some .arg
  else if off = 0x00008 ∧ n = 4 then some .canvas
  else if off = 0x0000C ∧ n = 4 then some .status
  else if off = 0x00010 ∧ n = 4 then some .errinfo
  else if (n = 1 ∨ n = 2 ∨ n = 4) ∧ off % n = 0 ∧ 0x80000 ≤ off ∧ off + n ≤ fbWindowEnd then
    some (.fb (off - 0x80000))
  else none

/-- The issue of the operation that the word `v`, written to OP, selects (R43). -/
def State.issue (s : State) (v : Word) : State :=
  { s with
    active := true
    op := opcOf v
    pc := .rule 0
    err := .noError
    detail := 0#2
    errinfo := 0#19 }.emit (.issue (opcOf v))

/-- A write that found an operation active is dropped and sets REJ (R27). -/
def State.unlessActive (s : State) (t : State) : State :=
  if s.active then { s with rej := true } else t

/-- The effect of a legal n-byte write of `v` (R23 to R29, R63, R66, R67). -/
def State.writeTarget (s : State) (t : Target) (n : Nat) (v : Word) : State :=
  match t with
  | .op => s.unlessActive (s.issue v)
  | .arg => s.unlessActive { s with argVal := v.extractLsb' 0 8 }
  | .canvas => s.unlessActive { s with canvasW := v.extractLsb' 0 16, canvasH := v.extractLsb' 16 16 }
  | .status => if v.getLsbD 15 then { s with rej := false } else s
  | .errinfo => s
  | .fb a => s.unlessActive { s with fb := Memory.writeBytes s.fb a v n }

/-- The value of a legal n-byte read, and the panel's answers after it: only a read of STATUS draws one (R37, R66). -/
def State.readTarget (s : State) (t : Target) (n : Nat) : Word × Env :=
  match t with
  | .op => (0#32, s.env)
  | .arg => (s.argWord, s.env)
  | .canvas => (s.canvasWord, s.env)
  | .status => let d := s.env.drawBusyIn; (s.statusWord d.1, d.2)
  | .errinfo => (s.errinfoWord, s.env)
  | .fb a => (Memory.readBytes s.fb a n, s.env)

/-- `HostWrite(addr, n, v)`. An illegal access is answered with the fault and changes nothing else (R65). -/
def State.hostWrite (s : State) (addr n : Nat) (v : Word) : State :=
  match windowOffset s.cfg addr with
  | none => { s with resp := .elsewhere }
  | some off =>
    match hostTarget off n with
    | none => { s with resp := .writeFault }
    | some t => { s.writeTarget t n v with resp := .written }

/-- `HostRead(addr, n)`. A faulting read returns 0 with the error (R65). -/
def State.hostRead (s : State) (addr n : Nat) : State :=
  match windowOffset s.cfg addr with
  | none => { s with resp := .elsewhere }
  | some off =>
    match hostTarget off n with
    | none => { s with resp := .readFault 0#32 }
    | some t => let r := s.readTarget t n; { s with env := r.2, resp := .value r.1 }

/-- The state after a block reset that leaves the given framebuffer contents (R250, R42): every piece of state takes its
reset value, the log gains BlockReset; the configuration, the log, the panel's answers, the host and the schedule are
not reset (they are no state of the DPC). -/
def State.blockReset (s : State) (contents : List Host.Cell) : State :=
  { State.reset with
    cfg := s.cfg
    fb := Memory.ofCells contents
    log := s.log
    env := s.env
    hostProg := s.hostProg
    resp := s.resp
    sched := s.sched
    turns := s.turns
    hostLeft := s.hostLeft }.emit .blockReset

end Sys2Proof.Machine
end

