-- ==== Sys2Proof/Machine/HostProgram.lean ====
section
/-! DEFINITION. The host as an agent: its next item, and the notation and pseudo-instructions of 30_encoding.md R101. -/

namespace Sys2Proof.Machine

/-- The offset of a register (R22). -/
def offOp : Nat := 0x00000
/-- The offset of ARG. -/
def offArg : Nat := 0x00004
/-- The offset of CANVAS. -/
def offCanvas : Nat := 0x00008
/-- The offset of STATUS. -/
def offStatus : Nat := 0x0000C
/-- The offset of ERRINFO. -/
def offErrinfo : Nat := 0x00010
/-- The offset of the framebuffer window. -/
def offFb : Nat := 0x80000

/-- `wr REG, v` (R101). -/
def wr (c : Config) (off : Nat) (v : Word) : HostItem := .write (c.hostBase + off) 4 v
/-- `wrfb a, n, v` (R101). -/
def wrfb (c : Config) (a n : Nat) (v : Word) : HostItem := .write (c.hostBase + offFb + a) n v
/-- `rd REG` (R101). -/
def rd (c : Config) (off : Nat) : HostItem := .read (c.hostBase + off) 4

/-- The pseudo-instruction of an operation without operand: `wr OP, opc` ; `wait` (R101). -/
def progOp (c : Config) (i : Instr) : List HostItem := [wr c offOp (encode i), .wait]
/-- The pseudo-instruction of an operation with an ARG operand (R101). -/
def progArg (c : Config) (i : Instr) (b : Byte) : List HostItem := wr c offArg (b.setWidth 32) :: progOp c i
/-- `INIT` (R101). -/
def progInit (c : Config) : List HostItem := progOp c .init
/-- `CMD b` (R101). -/
def progCmd (c : Config) (b : Byte) : List HostItem := progArg c .cmd b
/-- `DATA b` (R101). -/
def progData (c : Config) (b : Byte) : List HostItem := progArg c .data b
/-- `WAIT_IDLE` (R101). -/
def progWaitIdle (c : Config) : List HostItem := progOp c .waitIdle
/-- `RENDER w, h` (R101). -/
def progRender (c : Config) (w h : BitVec 16) : List HostItem := wr c offCanvas (h ++ w) :: progOp c .render
/-- `RENDER` without operands is `RENDER 800, 480` (R101). -/
def progRenderFull (c : Config) : List HostItem := progRender c 800#16 480#16
/-- `REFRESH` (R101). -/
def progRefresh (c : Config) : List HostItem := progOp c .refresh
/-- `CLEAR c` (R101). -/
def progClear (c : Config) (v : Byte) : List HostItem := progArg c .clear v
/-- `CLEAR` without operand is `CLEAR 1`, white (R101). -/
def progClearWhite (c : Config) : List HostItem := progClear c 1#8
/-- `SLEEP` (R101). -/
def progSleep (c : Config) : List HostItem := progOp c .sleep
/-- `FILL c`: every cell of the framebuffer by 96000 writes of four cells (R101). -/
def progFill (c : Config) (v : Byte) : List HostItem :=
  (List.range 96000).map (fun m => wrfb c (4 * m) 4 (v ++ v ++ v ++ v))

/-- The host makes its next access, if it has one (R71): a write, a read, or one read of STATUS for `wait`, which stays
until the value read has ACTIVE = 0 (R101). -/
def State.hostStep (s : State) : State :=
  match s.hostProg with
  | [] => s
  | .write addr n v :: rest => { s.hostWrite addr n v with hostProg := rest }
  | .read addr n :: rest => { s.hostRead addr n with hostProg := rest }
  | .wait :: rest =>
    let r := s.readTarget .status 4
    if r.1.getLsbD 3 then { s with env := r.2, resp := .value r.1 }
    else { s with env := r.2, resp := .value r.1, hostProg := rest }

end Sys2Proof.Machine
end

