-- ==== Sys2Proof/Machine/Agents.lean ====
section
/-! DEFINITION. Which agent moves in a step (10_state.md R20, 20_memory.md R74, 60_exceptions.md R231): the schedule in
the state says; past its end the host takes a free number of steps before each step of the sequencer. -/

namespace Sys2Proof.Machine

/-- Who moves in a step. -/
inductive Mover where
  /-- The sequencer takes a step of the active operation. -/
  | sequencer
  /-- The host makes its next access, if it has one left. -/
  | host
  /-- The block reset asserts and leaves these framebuffer contents (R250, R251). -/
  | blockReset (contents : List Host.Cell)
  deriving DecidableEq, Repr

/-- Past the end of the schedule: how many steps the host takes before the sequencer's next one, if it has so many
accesses left. Any number, so the host may move as often as it likes; a number, so that an enabled step of the sequencer
is taken (R74). -/
def State.hostTurns (s : State) : Nat := s.hostLeft.getD (Config.hostTurns s.turns)

/-- Who moves next. A turn whose agent cannot move goes to the other one (log entry 19). -/
def State.mover (s : State) : Mover :=
  match s.sched with
  | .blockReset contents :: _ => .blockReset contents
  | .dpc :: _ => if s.active then .sequencer else .host
  | .host :: _ => if s.active && s.hostProg.isEmpty then .sequencer else .host
  | [] => if s.active && (s.hostProg.isEmpty || s.hostTurns == 0) then .sequencer else .host

/-- The state with the next turn taken: off the schedule; past its end, where both could move, one of the host's steps
before the sequencer's, or, when there is none left, the sequencer's, after which a new number counts. -/
def State.turnTaken (s : State) : State :=
  match s.sched with
  | _ :: rest => { s with sched := rest }
  | [] =>
    if s.active && !s.hostProg.isEmpty then
      match s.hostTurns with
      | 0 => { s with turns := s.turns + 1, hostLeft := none }
      | left + 1 => { s with hostLeft := some left }
    else s

/-- The sequencer's step: one step of the operation in `op` (R36, R43). -/
def State.dpcStep (s : State) : Result := exec (decodeOpc s.op) s

/-- One step of the machine: one step of one agent (R11, R20). -/
def State.agentStep (s : State) : Result :=
  match s.mover with
  | .sequencer => s.turnTaken.dpcStep
  | .host => .next s.turnTaken.hostStep
  | .blockReset contents => .next (s.turnTaken.blockReset contents)

/-- The state in which the operation of word `w` has just been issued by an OP write and the sequencer moves next. -/
def State.withIssued (s : State) (w : Word) : State := { s.issue w with sched := .dpc :: s.sched }

end Sys2Proof.Machine
end

