-- ==== Sys2Proof/Machine/Step.lean ====
section
/-! DEFINITION. The step of the machine, and the placing of an operation word as the next one to run. -/

namespace Sys2Proof.Machine

/-- One step: one atomic step of one agent (00_scope.md R11, 20_memory.md R74). -/
def step (s : State) : Host.Outcome State Fault Refusal := s.agentStep

/-- `s` with the operation word `w` issued (10_state.md R43) and the sequencer to move next, so that the very next step
is the first step of that operation (log entry 16). -/
def State.withFetchWord (s : State) (nbits w : Nat) : State := s.withIssued (BitVec.ofNat 32 (w % 2 ^ nbits))

end Sys2Proof.Machine
end

