-- ==== Sys2Proof/Machine/Observe.lean ====
section
/-! DEFINITION. What is observed of a run: the panel trace (10_state.md R40), the delays in it (70_reset_and_hazards.md
R261), fair runs (20_memory.md R74) and the end of a run (R263), and repeated steps of one operation. -/

namespace Sys2Proof.Machine

/-- A panel-side event; Issue, Done and BlockReset are host-side markers (R40). -/
def Event.isPanel : Event → Bool
  | .line _ _ | .opened _ _ _ | .write _ _ _ | .close | .delay _ | .poll _ => true
  | .issue _ | .done _ _ | .blockReset => false

/-- The panel trace: the log with the host-side markers removed (R40). -/
def panelTrace (log : List Event) : List Event := log.filter Event.isPanel

/-- The minimum duration of an event, in ms (R147). -/
def Event.minMs : Event → Nat
  | .delay t => t
  | _ => 0

/-- The lower bound that the delays of a trace give, in ms (R261). -/
def minMs (log : List Event) : Nat := (log.map Event.minMs).sum

/-! ## Runs: fairness (R74) and their end (R263) -/

/-- An endless run: each state is the step of the one before. -/
def IsRun (r : Nat → State) : Prop := ∀ k, step (r k) = .next (r (k + 1))

/-- Weak fairness (20_memory.md R74): from every point at which an operation is active on, there comes a step of the
sequencer, or a block reset ends the operation first. -/
def FairRun (r : Nat → State) : Prop :=
  ∀ k, (r k).active = true →
    ∃ j, k ≤ j ∧ (∀ m, k ≤ m → m ≤ j → (r m).active = true) ∧
      ((r j).mover = .sequencer ∨ ∃ contents, (r j).mover = .blockReset contents)

/-- The value that the next step's read of STATUS returns, where that step is one: the host moves, and its next access
is a legal read of STATUS or a `wait`. -/
def State.statusRead (s : State) : Option Word :=
  match s.mover, s.hostProg with
  | .host, .read addr n :: _ =>
    if (windowOffset s.cfg addr).bind (fun off => hostTarget off n) = some .status then
      some (s.readTarget .status n).1
    else none
  | .host, .wait :: _ => some (s.readTarget .status 4).1
  | .host, .write _ _ _ :: _ | .host, [] | .sequencer, _ | .blockReset _, _ => none

/-- Where a log stands in the lifecycles of the panel (R254): outside one; after an INIT's Issue, with the panel events
since; or after the Issue of the SLEEP that ends it. -/
inductive Phase where
  | outside
  | live (events : List Event)
  | closing (events : List Event)
  deriving DecidableEq, Repr

/-- A log read so far: the phase, and the panel trace of the last complete lifecycle. -/
structure Lifecycles where
  phase : Phase
  last  : Option (List Event)
  deriving DecidableEq, Repr

/-- Panel events are kept; host-side markers are not (R40). -/
def keepPanel (events : List Event) (e : Event) : List Event := if e.isPanel then events ++ [e] else events

/-- Reading one more event. An INIT opens a lifecycle outside one only, since within one it is a SequenceError (R160,
R223); the first SLEEP within one ends it with its Done (R210 to R213); a block reset breaks it off (R260). -/
def Lifecycles.read (l : Lifecycles) (e : Event) : Lifecycles :=
  match l.phase with
  | .outside => if e = .issue 0x1#4 then { l with phase := .live [] } else l
  | .live events =>
    if e = .issue 0x8#4 then { l with phase := .closing events }
    else if e = .blockReset then { l with phase := .outside }
    else { l with phase := .live (keepPanel events e) }
  | .closing events =>
    match e with
    | .done _ _ => { phase := .outside, last := some events }
    | .blockReset => { l with phase := .outside }
    | .line _ _ | .opened _ _ _ | .write _ _ _ | .close | .delay _ | .poll _ | .issue _ =>
      { l with phase := .closing (keepPanel events e) }

/-- The lifecycles of a log. -/
def lifecycles (log : List Event) : Lifecycles := log.foldl Lifecycles.read ⟨.outside, none⟩

/-- The observable result of the last complete lifecycle of a log: its panel trace from the `Issue(0x1)` of the INIT to
the `Done` of the SLEEP (R263). -/
def runTrace (log : List Event) : Option (List Event) := (lifecycles log).last

/-- A value of STATUS has ACTIVE = 0 and STATE = 4 (S_ASLEEP). -/
def readsAsleep (v : Word) : Bool := !v.getLsbD 3 && (v.extractLsb' 0 3 == 4#3)

/-- The end of a run (R263): the next step is the host's read of STATUS with ACTIVE = 0 and STATE = 4 after the SLEEP of
a lifecycle; and the run's observable result. -/
def State.runEnds (s : State) : Option (List Event) :=
  s.statusRead.bind (fun v => if readsAsleep v then runTrace s.log else none)

/-! ## Traces of the composite primitives -/

/-- The events of a successful SendCommand (`level` 0), SendData or SendBulk (`level` 1) (R143 to R145). -/
def sentEvents (level : Level) (bytes : List Byte) : List Event := [.line .dc level, .write level bytes true]

/-- The levels a PollIdle that returns sees: r busy samples, then an idle one (R148). -/
def pollSamples (c : Config) (r : Nat) : List Level := List.replicate r (!c.busyIdleLevel) ++ [c.busyIdleLevel]

/-- `(Poll(busy), Delay(5))^r`: the trace of r busy samples of a PollIdle with their delays (R148). -/
def busyTrace (c : Config) (r : Nat) : List Event :=
  (List.replicate r [Event.poll (!c.busyIdleLevel), Event.delay tPoll]).flatten

/-- The trace of a PollIdle that returns after r busy samples (R148). -/
def pollTrace (c : Config) (r : Nat) : List Event := busyTrace c r ++ [.poll c.busyIdleLevel]

/-- r busy samples are too few for a timeout (R148). -/
def withinTimeout (c : Config) (r : Nat) : Bool :=
  match c.busyTimeoutPolls with
  | none => true
  | some limit => decide (r < limit)

/-- The trace of Refresh() whose polls see r1, r2 and r3 busy samples (R197). -/
def refreshTrace (c : Config) (r1 r2 r3 : Nat) : List Event :=
  sentEvents false [c.cmdPowerOn] ++ pollTrace c r1
    ++ (sentEvents false [c.cmdRefresh] ++ sentEvents true [refreshData]) ++ pollTrace c r2
    ++ (sentEvents false [c.cmdPowerOff] ++ sentEvents true [powerOffData]) ++ pollTrace c r3

/-- The bytes of one init-table entry in the order sent, each with its DC level: the command byte, then the data bytes
(R166). -/
def entryBytes (e : InitEntry) : List (Level × Byte) := (false, e.cmd) :: e.data.map (fun b => (true, b))

/-- The bytes of the init table in the order sent, each with its DC level (R166). -/
def tableBytes (table : List InitEntry) : List (Level × Byte) := table.flatMap entryBytes

/-- The events of a list of bytes, each sent on its own with its DC level (R143, R144). -/
def byteTrace (bytes : List (Level × Byte)) : List Event := bytes.flatMap (fun x => sentEvents x.1 [x.2])

/-! ## What the panel answers (R236), listed or free -/

/-- The next samples of PollIdle are these. -/
def Env.pollsGive : List Level → Env → Bool
  | [], _ => true
  | b :: bs, e => (e.drawPoll.1 == b) && Env.pollsGive bs e.drawPoll.2

/-- The next writes, of these bytes, succeed. -/
def Env.writesSucceed : List (List Byte) → Env → Bool
  | [], _ => true
  | bytes :: rest, e => (e.drawWrite bytes).1 && Env.writesSucceed rest (e.drawWrite bytes).2

/-- The panel's answers after the next writes, of these bytes. -/
def Env.afterWrites : List (List Byte) → Env → Env
  | [], e => e
  | bytes :: rest, e => Env.afterWrites rest (e.drawWrite bytes).2

/-- `k` steps of the operation `i`, with no step of another agent between them. -/
def opRun (i : Instr) : Nat → State → Result
  | 0, s => .next s
  | k + 1, s =>
    match exec i s with
    | .next t => opRun i k t
    | .fault r => .fault r
    | .refused r => .refused r

end Sys2Proof.Machine
end

