-- ==== Sys2Proof/Safety.lean ====
section
/-! DEFINITION. What counts as a good state of the DPC, in the terms the statements use: the invariant that every step
keeps. Its parts are the spec's rules on the flags (10_state.md R41), the session and the lines (R31, R34, R35), the
framebuffer (20_memory.md R60), the counters (R70) and the sequencer's positions (42 to 45). -/

namespace Sys2Proof.Machine

/-- The flags (R28, R41, R43, R221): while an operation is active ERR, DETAIL and ERRINFO are 0; DETAIL is 0 unless ERR is
BusIOFailure; ERRINFO is 0 unless ERR is PaletteMismatch, and is a cell index. -/
structure FlagsOk (s : State) : Prop where
  clearWhileActive : s.active = true → s.err = .noError ∧ s.detail = 0#2 ∧ s.errinfo = 0#19
  detailOnlyBus : s.err ≠ .busIOFailure → s.detail = 0#2
  errinfoOnlyPalette : s.err ≠ .paletteMismatch → s.errinfo = 0#19
  errinfoBound : s.errinfo.toNat < npix

/-- The bounded counters (R70). -/
structure CountersOk (s : State) : Prop where
  entry : s.i < initTableLen
  pair : s.k < frameBytes
  pixel : s.p < npix
  samples : ∀ limit, s.cfg.busyTimeoutPolls = some limit → s.n ≤ limit

/-- SLEEP is past its bus close (R212). -/
def State.tearingDown (s : State) : Prop :=
  s.active = true ∧ decodeOpc s.op = .sleep ∧ ∃ n, s.pc = .rule n ∧ 6 ≤ n

/-- The session, the lines and the bus (R31, R161, R163, R212): between sessions all lines are 0 and the bus is closed;
PWR is 1 during a session, and after a completed INIT the bus is open and RST is 1, until SLEEP's teardown. -/
structure SessionOk (s : State) : Prop where
  released : s.sessionLive = false → s.pwr = false ∧ s.rst = false ∧ s.dc = false ∧ s.busOpen = false
  powered : s.sessionLive = true → s.pwr = true ∨ s.tearingDown
  opened : s.fsm = .idle → (s.busOpen = true ∧ s.rst = true) ∨ s.tearingDown

/-- With a timeout configured, fewer than N busy samples have been counted. -/
def State.samplesLeft (s : State) : Prop := ∀ limit, s.cfg.busyTimeoutPolls = some limit → s.n < limit

/-- The abort positions of the frame operations: the raise that a failed write or a poll reached (R226, R228). -/
def abortOk (e : Err) (d : BitVec 2) : Prop := e = .busIOFailure ∧ (d = writeFailed ∨ d = busyTimeout)

/-- INIT's lines and bus at a raise (R167). -/
def initAbortOk (s : State) (e : Err) (d : BitVec 2) : Prop :=
  e = .busIOFailure ∧ s.fsm = .poweredUp ∧ s.pwr = true ∧
    ((d = openFailed ∧ s.rst = false ∧ s.dc = false ∧ s.busOpen = false) ∨
     (d = busyTimeout ∧ s.rst = true ∧ s.dc = false ∧ s.busOpen = true) ∨
     (d = writeFailed ∧ s.rst = true ∧ s.busOpen = true))

/-- A position of Refresh(): the bus is open, and DC has the level of the byte about to be written (R95, R197). -/
def handshakeOk (s : State) (n : Nat) : Prop :=
  n ≤ 19 ∧ s.busOpen = true ∧
    (n = 1 ∨ n = 6 ∨ n = 13 → s.dc = false) ∧ (n = 8 ∨ n = 15 → s.dc = true) ∧
    (n = 3 ∨ n = 4 ∨ n = 10 ∨ n = 11 ∨ n = 17 ∨ n = 18 → s.samplesLeft)

/-- The positions of INIT (R160 to R166). -/
def initOk (s : State) : Prop :=
  match s.pc with
  | .rule 0 => True
  | .rule 1 => s.fsm = .poweredUp ∧ s.rst = false ∧ s.dc = false ∧ s.busOpen = false
  | .rule n =>
    n ≤ 16 ∧ s.fsm = .poweredUp ∧ s.busOpen = true ∧ (7 ≤ n → s.rst = true) ∧ (n ≤ 11 → s.dc = false) ∧
      (n = 9 ∨ n = 10 → s.samplesLeft) ∧ (n = 13 → s.dc = false) ∧ (n = 15 → s.dc = true) ∧
      (n = 14 ∨ n = 15 → ∃ e, s.cfg.initTable[s.i]? = some e ∧ s.j < e.data.length)
  | .handshake _ => False
  | .abort e d => initAbortOk s e d

/-- The positions of CMD and DATA, whose byte goes out with DC at `level` (R180, R181). -/
def rawOk (s : State) (level : Level) : Prop :=
  match s.pc with
  | .rule 0 => True
  | .rule n => n ≤ 2 ∧ s.busOpen = true ∧ s.dc = level
  | .handshake _ => False
  | .abort e d => e = .busIOFailure ∧ d = writeFailed ∧ s.busOpen = true

/-- The positions of WAIT_IDLE (R182). -/
def waitOk (s : State) : Prop :=
  match s.pc with
  | .rule 0 => True
  | .rule n => n ≤ 3 ∧ s.busOpen = true ∧ (n = 1 ∨ n = 2 → s.samplesLeft)
  | .handshake _ => False
  | .abort e d => e = .busIOFailure ∧ d = busyTimeout ∧ s.busOpen = true

/-- The positions of RENDER and CLEAR (R190, R199); `bulk` says what holds of the bytes still to be sent. -/
def frameOk (s : State) (bulk : Prop) : Prop :=
  match s.pc with
  | .rule 0 => True
  | .rule n => n ≤ 3 ∧ s.busOpen = true ∧ (n = 1 → s.dc = false) ∧ (n = 3 → s.dc = true) ∧ bulk
  | .handshake n => handshakeOk s n
  | .abort e d => abortOk e d ∧ s.busOpen = true

/-- The positions of REFRESH (R196). -/
def refreshOk (s : State) : Prop :=
  match s.pc with
  | .rule 0 => True
  | .rule _ => False
  | .handshake n => handshakeOk s n
  | .abort e d => abortOk e d ∧ s.busOpen = true

/-- The positions of SLEEP (R210 to R212). -/
def sleepOk (s : State) : Prop :=
  match s.pc with
  | .rule 0 => True
  | .rule n =>
    n ≤ 9 ∧ s.sessionLive = true ∧ (n ≤ 5 → s.busOpen = true) ∧ (n = 1 → s.dc = false) ∧ (n = 3 → s.dc = true) ∧
      (6 ≤ n → s.busOpen = false) ∧ (7 ≤ n → s.rst = false) ∧ (8 ≤ n → s.dc = false) ∧ (9 ≤ n → s.pwr = false)
  | .handshake _ => False
  | .abort _ _ => False

/-- The sequencer stands at a position of the active operation's rule, with the lines, the bus and the operands as that
rule has set them: every cell is valid while RENDER sends (R123), the operand is valid while CLEAR sends (R199). -/
def positionOk (s : State) : Prop :=
  match decodeOpc s.op with
  | .illegal _ => s.pc = .rule 0
  | .init => initOk s
  | .cmd => rawOk s false
  | .data => rawOk s true
  | .waitIdle => waitOk s
  | .render => frameOk s (∀ a, a < npix → valid (Memory.read s.fb a) = true)
  | .refresh => refreshOk s
  | .clear => frameOk s (valid s.opnd = true)
  | .sleep => sleepOk s

/-- A good state: the configuration meets R7 and R97, the framebuffer has its canonical form, and the flags, the
counters, the session and the active operation's position are as the rules have them. -/
structure State.Inv (s : State) : Prop where
  config : configOk s.cfg = true
  memory : Memory.wf s.fb = true
  flags : FlagsOk s
  counters : CountersOk s
  session : SessionOk s
  position : s.active = true → positionOk s

/-- Every byte a step sends goes to an open bus, with DC as the log records it, in a non-empty write (R142). -/
def State.sendsSafely (s t : State) : Prop :=
  ∀ dc bytes ok, t.log = s.log ++ [.write dc bytes ok] → s.busOpen = true ∧ dc = s.dc ∧ bytes ≠ []

/-- Two states that agree on everything a step of an operation reads: they may differ in REJ, the host's side, the
BUSY_IN answers and the schedule (R74, R256). -/
def State.hostSide (s t : State) : State :=
  { s with
    rej := t.rej
    env := { s.env with busyIns := t.env.busyIns, nBusyIn := t.env.nBusyIn }
    hostProg := t.hostProg
    resp := t.resp
    sched := t.sched
    turns := t.turns
    hostLeft := t.hostLeft }

/-- A result with the host's side of `t` put into a next state. -/
def hostSideOf (r : Result) (t : State) : Result :=
  match r with
  | .next s => .next (s.hostSide t)
  | .fault f => .fault f
  | .refused f => .refused f

end Sys2Proof.Machine
end

