-- ==== Sys2Proof/Certificates/Slice0/Obligations.lean ====
section
/-! DEFINITION. The statements about the DPC, each from the rules of spec/ its docstring names. A statement about an
operation's step speaks of `exec`, which takes the step of the operation at which the sequencer stands; `opRun` takes
several with no step of another agent between them (by HostStepsDoNotDisturbOperations such steps change nothing). -/

open Sys2Proof Sys2Proof.Machine Host

/-! ## Encoding -/

/-- 30_encoding.md R93: decoding is total and depends on bits 3:0 only; each code selects its row of R91. -/
def Obligations.DecodingReadsBits3To0Only : Prop :=
  (∀ v w : Word, v.extractLsb' 0 4 = w.extractLsb' 0 4 → decodeWord v = decodeWord w) ∧
  (∀ ign : BitVec 28,
    decodeWord (ign ++ 0x1#4) = .init ∧ decodeWord (ign ++ 0x2#4) = .cmd ∧ decodeWord (ign ++ 0x3#4) = .data ∧
    decodeWord (ign ++ 0x4#4) = .waitIdle ∧ decodeWord (ign ++ 0x5#4) = .render ∧
    decodeWord (ign ++ 0x6#4) = .refresh ∧ decodeWord (ign ++ 0x7#4) = .clear ∧
    decodeWord (ign ++ 0x8#4) = .sleep ∧
    ∀ opc : BitVec 4, opc = 0x0#4 ∨ 0x9#4 ≤ opc → decodeWord (ign ++ opc) = .illegal opc)

/-- 30_encoding.md R90 to R93, 20_memory.md R63: for every well-formed instruction and all ignored bits, the bytes of its
operation word decode to it, whatever follows them; and every word is the operation word of the well-formed instruction
it decodes to. -/
def Obligations.DecodeOfEncodeIsTheInstruction : Prop :=
  (∀ (i : Instr) (ign : BitVec 28) (rest : List Byte), i.wf = true →
    decodeBytes (leBytes (encodeWith i ign) ++ rest) = .ok (i, rest)) ∧
  (∀ v : Word, (decodeWord v).wf = true ∧ encodeWith (decodeWord v) (v.extractLsb' 4 28) = v)

/-- opcode_table.json, 95_test_vectors.md V-HO3 and the table of accesses in §3: some words read as the table says. -/
def Obligations.WrittenOutWordsDecodeToTheirRows : Prop :=
  decodeTableWord 32 0b00000000000000000000000000000001 = some .init ∧
  decodeTableWord 32 0b11111111111111111111111111110001 = some .init ∧
  decodeTableWord 32 0b00000000000000000000000000000010 = some .cmd ∧
  decodeTableWord 32 0b00000000000000000000000000000101 = some .render ∧
  decodeTableWord 32 0b00000000000000000000000000001000 = some .sleep ∧
  decodeTableWord 32 0b00000000000000000000000000001111 = some (.illegal 0xF#4)

/-! ## Steps, issue and the host port -/

/-- 10_state.md R36, R43, R11: when an operation is active and the sequencer moves, the step is exec of the instruction
that the operation code decodes to, and around it only the schedule and its counts move on. Who moves is the model's
choice, within what 20_memory.md R74 allows: the schedule, and past its end with both able to move the host's free number
of steps before the sequencer's (log entry 2); a host's turn with nothing left for the host goes to the sequencer (log
entry 19); the word placed by withFetchWord is run by the very next step (log entry 16). -/
def Obligations.StepRunsTheDecodedOperation : Prop :=
  (∀ (s : State) (rest : List Turn), s.active = true →
    (s.sched = .dpc :: rest → step s = exec (decodeOpc s.op) { s with sched := rest }) ∧
    (s.sched = .host :: rest → s.hostProg = [] → step s = exec (decodeOpc s.op) { s with sched := rest }) ∧
    (s.sched = [] → s.hostProg = [] → step s = exec (decodeOpc s.op) s) ∧
    (s.sched = [] → s.hostProg ≠ [] → s.hostTurns = 0 →
      step s = exec (decodeOpc s.op) { s with turns := s.turns + 1, hostLeft := none }) ∧
    (∀ left, s.sched = [] → s.hostProg ≠ [] → s.hostTurns = left + 1 →
      step s = .next { s with hostLeft := some left }.hostStep)) ∧
  (∀ (s : State) (nbits w : Nat),
    step (s.withFetchWord nbits w) =
      exec (decodeWord (BitVec.ofNat 32 (w % 2 ^ nbits))) (s.issue (BitVec.ofNat 32 (w % 2 ^ nbits))))

/-- 20_memory.md R71, 30_encoding.md R101: a step of the host is its next access: a write or a read is made and removed
from its program, a `wait` is a read of STATUS (R72) that stays until it reads ACTIVE = 0. 20_memory.md R74: in every run
an enabled step of the sequencer is taken in the end, unless a block reset comes first. The schedule of turns is the
model's choice (log entry 2), and so are these: a sequencer's turn with no operation active goes to the host (log entry
19), a host with nothing left leaves the state as it is (log entry 15), `wait` is one item of the host's program (log
entry 20). -/
def Obligations.HostMovesInProgramOrder : Prop :=
  (∀ (s : State) (rest : List Turn),
    (s.sched = .host :: rest → s.hostProg ≠ [] → step s = .next { s with sched := rest }.hostStep) ∧
    (s.sched = .dpc :: rest → s.active = false → step s = .next { s with sched := rest }.hostStep) ∧
    (s.sched = [] → s.active = false → step s = .next s.hostStep)) ∧
  (∀ (s : State) (items : List HostItem),
    (s.hostProg = [] → s.hostStep = s) ∧
    (∀ addr n v, s.hostProg = .write addr n v :: items →
      s.hostStep = { s.hostWrite addr n v with hostProg := items }) ∧
    (∀ addr n, s.hostProg = .read addr n :: items → s.hostStep = { s.hostRead addr n with hostProg := items }) ∧
    (s.hostProg = .wait :: items →
      s.hostStep =
        { s.hostRead (s.cfg.hostBase + 0x0000C) 4 with hostProg := if s.active then .wait :: items else items })) ∧
  (∀ r : Nat → State, IsRun r → FairRun r)

/-- 10_state.md R43: a write to OP while no operation is active issues the operation of bits 3:0; and a step of an active
operation leaves it active, or appends Done(ERR, DETAIL) and ends it. -/
def Obligations.IssueAndCompletion : Prop :=
  (∀ (s : State) (v : Word), s.active = false →
    s.hostWrite s.cfg.hostBase 4 v =
      { s with
        active := true
        op := v.extractLsb' 0 4
        pc := .rule 0
        err := .noError
        detail := 0#2
        errinfo := 0#19
        log := s.log ++ [.issue (v.extractLsb' 0 4)]
        resp := .written }) ∧
  (∀ (i : Instr) (s t : State), s.active = true → exec i s = .next t →
    (t.active = true ∧ ∀ e d, t.log ≠ s.log ++ [.done e d]) ∨
    (t.active = false ∧ t.log = s.log ++ [.done t.err t.detail]))

/-- 10_state.md R27: a write to OP, ARG, CANVAS or the framebuffer while an operation is active is dropped and sets REJ;
a write to STATUS clears REJ exactly if bit 15 is 1, active or not; no operation changes REJ; a block reset clears it,
and no step but that of a block reset or of such a STATUS write does. -/
def Obligations.WritesWhileActiveAreDropped : Prop :=
  (∀ (s : State) (addr off n : Nat) (v : Word) (t : Target),
    windowOffset s.cfg addr = some off → hostTarget off n = some t → s.active = true →
    (t = .op ∨ t = .arg ∨ t = .canvas ∨ ∃ a, t = .fb a) →
    s.hostWrite addr n v = { s with rej := true, resp := .written }) ∧
  (∀ (s : State) (v : Word),
    s.hostWrite (s.cfg.hostBase + 0x0000C) 4 v =
      { s with rej := if v.getLsbD 15 then false else s.rej, resp := .written }) ∧
  (∀ (i : Instr) (s t : State), exec i s = .next t → t.rej = s.rej) ∧
  (∀ (s : State) (contents : List Cell), (s.blockReset contents).rej = false) ∧
  (∀ s t : State, step s = .next t → s.rej = true → t.rej = false →
    (∃ contents rest, s.sched = .blockReset contents :: rest) ∨
    ∃ addr v items, s.hostProg = .write addr 4 v :: items ∧ windowOffset s.cfg addr = some 0x0000C ∧
      v.getLsbD 15 = true)

/-- 20_memory.md R62, R65: an access inside the window that is neither a 4-byte access at a register's offset nor an
aligned access of 1, 2 or 4 bytes inside the framebuffer window is answered with the fault, a read with the value 0, and
changes nothing; every other access inside the window is answered without a fault. -/
def Obligations.IllegalHostAccessesFault : Prop :=
  ∀ (s : State) (off n : Nat) (v : Word), off < 0x100000 →
    let legal := (n = 4 ∧ off % 4 = 0 ∧ off < 0x14) ∨
      ((n = 1 ∨ n = 2 ∨ n = 4) ∧ off % n = 0 ∧ 0x80000 ≤ off ∧ off + n ≤ 0xDDC00)
    (¬ legal →
      s.hostWrite (s.cfg.hostBase + off) n v = { s with resp := .writeFault } ∧
      s.hostRead (s.cfg.hostBase + off) n = { s with resp := .readFault 0#32 }) ∧
    (legal →
      (s.hostWrite (s.cfg.hostBase + off) n v).resp = .written ∧
      ∃ w, (s.hostRead (s.cfg.hostBase + off) n).resp = .value w)

/-- 20_memory.md R63, R60: an n-byte framebuffer write stores byte m of the value, the least significant first, in cell
a + m and leaves every other cell; an n-byte read returns those cells with cell a + m in byte m and zeros above. -/
def Obligations.FramebufferIsLittleEndian : Prop :=
  ∀ (s : State) (a n : Nat) (v : Word), Memory.wf s.fb = true → (n = 1 ∨ n = 2 ∨ n = 4) → a % n = 0 →
    a + n ≤ 384000 →
    (s.active = false →
      ∃ m, s.hostWrite (s.cfg.hostBase + 0x80000 + a) n v = { s with fb := m, resp := .written } ∧
        Memory.wf m = true ∧
        (∀ k, k < n → Memory.read m (a + k) = v.extractLsb' (8 * k) 8) ∧
        (∀ b, b < a ∨ a + n ≤ b → Memory.read m b = Memory.read s.fb b)) ∧
    (∃ w, s.hostRead (s.cfg.hostBase + 0x80000 + a) n = { s with resp := .value w } ∧
      (∀ k, k < n → w.extractLsb' (8 * k) 8 = Memory.read s.fb (a + k)) ∧ w.toNat < 2 ^ (8 * n))

/-- 10_state.md R26, R33, R37, R44, 60_exceptions.md R220: a read of STATUS gives each field at its place, reserved bits
0, and BUSY_IN as the panel answers; only the answer and the panel's answers to come change. That BUSY_IN draws from a
list of answers of its own is the model's choice (log entry 3). -/
def Obligations.StatusReadsEveryFieldAtItsPlace : Prop :=
  ∀ s : State, ∃ w : Word,
    s.hostRead (s.cfg.hostBase + 0x0000C) 4 = { s with env := s.env.drawBusyIn.2, resp := .value w } ∧
    w.extractLsb' 0 3 =
      (if s.active = true ∧ s.fsm = .idle then 3#3
       else match s.fsm with
        | .uninit => 0#3
        | .poweredUp => 1#3
        | .idle => 2#3
        | .asleep => 4#3) ∧
    w.getLsbD 3 = s.active ∧
    w.extractLsb' 4 3 =
      (match s.err with
        | .noError => 0#3
        | .dimensionMismatch => 1#3
        | .paletteMismatch => 2#3
        | .busIOFailure => 3#3
        | .sequenceError => 4#3
        | .illegalOp => 5#3) ∧
    w.getLsbD 7 = false ∧
    w.extractLsb' 8 2 = s.detail ∧
    w.extractLsb' 10 5 = 0#5 ∧
    w.getLsbD 15 = s.rej ∧
    w.getLsbD 16 = s.pwr ∧
    w.getLsbD 17 = s.rst ∧
    w.getLsbD 18 = s.dc ∧
    w.getLsbD 19 = s.busOpen ∧
    w.getLsbD 20 = s.env.drawBusyIn.1 ∧
    w.extractLsb' 21 11 = 0#11

/-- 10_state.md R23, R24, R25, R28, R29, 70_reset_and_hazards.md R259: what the other registers read, whether or not an
operation is active: OP reads 0, ARG its byte with zeros above, CANVAS W and H, ERRINFO PIX with zeros above; a write to
ERRINFO is ignored, active or not; and while no operation is active ARG keeps bits 7:0 of a write and CANVAS keeps W and
H, so that they read back. -/
def Obligations.RegistersReadBackAsDescribed : Prop :=
  ∀ (s : State) (v : Word),
    s.hostRead s.cfg.hostBase 4 = { s with resp := .value 0#32 } ∧
    s.hostRead (s.cfg.hostBase + 0x00004) 4 = { s with resp := .value (0#24 ++ s.argVal) } ∧
    s.hostRead (s.cfg.hostBase + 0x00008) 4 = { s with resp := .value (s.canvasH ++ s.canvasW) } ∧
    s.hostRead (s.cfg.hostBase + 0x00010) 4 = { s with resp := .value (0#13 ++ s.errinfo) } ∧
    s.hostWrite (s.cfg.hostBase + 0x00010) 4 v = { s with resp := .written } ∧
    (s.active = false →
      (let t := s.hostWrite (s.cfg.hostBase + 0x00004) 4 v
       t = { s with argVal := v.extractLsb' 0 8, resp := .written } ∧
       t.hostRead (s.cfg.hostBase + 0x00004) 4 = { t with resp := .value (v &&& 0x000000FF#32) }) ∧
      (let t := s.hostWrite (s.cfg.hostBase + 0x00008) 4 v
       t = { s with canvasW := v.extractLsb' 0 16, canvasH := v.extractLsb' 16 16, resp := .written } ∧
       t.hostRead (s.cfg.hostBase + 0x00008) 4 = { t with resp := .value v }))

/-- 30_encoding.md R101: the host's FILL c, its accesses made in order while no operation is active, leaves every cell of
the framebuffer at c and changes nothing else of the DPC. -/
def Obligations.FillWritesEveryCell : Prop :=
  ∀ (s : State) (c : Byte), Memory.wf s.fb = true → s.active = false → s.hostProg = [] →
    let t := (progFill s.cfg c).foldl (fun u item => { u with hostProg := [item] }.hostStep) s
    (∀ a, a < 384000 → Memory.read t.fb a = c) ∧ t = { s with fb := t.fb, resp := .written }

/-! ## Reset -/

/-- 10_state.md R42, 70_reset_and_hazards.md R252: the value of every host-visible field after a block reset, from any
state and with any framebuffer contents, and at State.reset; BUSY_IN reads the live level, and any framebuffer contents
are those of some block reset. -/
def Obligations.ResetValues : Prop :=
  (∀ f : Nat → Byte, ∃ contents : List Cell, ∀ (s : State) (a : Nat), a < 384000 →
    Memory.read (s.blockReset contents).fb a = f a) ∧
  ∀ (s : State) (contents : List Cell) (t : State), t = s.blockReset contents ∨ t = State.reset →
    (t.hostRead t.cfg.hostBase 4).resp = .value 0#32 ∧
    t.fsm = .uninit ∧ t.active = false ∧ t.argVal = 0#8 ∧ t.canvasW = 0#16 ∧ t.canvasH = 0#16 ∧
    t.err = .noError ∧ t.detail = 0#2 ∧ t.rej = false ∧ t.errinfo = 0#19 ∧
    t.pwr = false ∧ t.rst = false ∧ t.dc = false ∧ t.busOpen = false ∧
    t.statusWord false = 0x00000000#32 ∧ t.statusWord true = 0x00100000#32

/-- 70_reset_and_hazards.md R250: a block reset may come at any step; it ends the active operation with no Done and no
further step of it, puts the registers, the flags, the FSM, the lines and the bus at their reset values, and appends one
BlockReset. The model's choices, not the rule's: it comes as a turn of the schedule and leaves the configuration, the
panel's answers, the host and the schedule (log entries 2 and 12), the don't-care registers op, pc, i, j, k, p, n and
err_pending (log entry 6), opnd (log entry 7) and the timer (log entry 13) take State.reset's values, the log is kept
(log entry 17), and the framebuffer is what its turn says (log entry 4; see ResetValues). -/
def Obligations.BlockResetEndsEverything : Prop :=
  ∀ (s : State) (contents : List Cell) (rest : List Turn), s.sched = .blockReset contents :: rest →
    ∃ t, step s = .next t ∧ t.active = false ∧
      t = { State.reset with
        cfg := s.cfg
        fb := t.fb
        log := s.log ++ [.blockReset]
        env := s.env
        hostProg := s.hostProg
        resp := s.resp
        sched := rest
        turns := s.turns
        hostLeft := s.hostLeft }

/-- 70_reset_and_hazards.md R251: every framebuffer contents is one that a block reset may leave, and a cell keeps its
byte over every step that is neither a block reset nor a host write. -/
def Obligations.FramebufferAfterResetIsAnyAndStable : Prop :=
  (∀ f : Nat → Byte, ∃ contents : List Cell, ∀ (s : State) (a : Nat), a < 384000 →
    Memory.read (s.blockReset contents).fb a = f a) ∧
  (∀ s t : State, step s = .next t →
    (∀ contents rest, s.sched ≠ .blockReset contents :: rest) →
    (∀ addr n v items, s.hostProg ≠ .write addr n v :: items) → t.fb = s.fb)

/-! ## Pure functions of the packer -/

/-- 40_wire_packer.md R121: pack rejects an odd length first, then the lowest invalid index, and otherwise gives one byte
per pair, the first pixel in the high nibble. -/
def Obligations.PackRejectsAndPacks : Prop :=
  ∀ s : List Byte,
    (s.length % 2 = 1 → pack s = .error .oddLength) ∧
    (s.length % 2 = 0 → ∀ (i : Nat) (v : Byte), s[i]? = some v → ¬ v ≤ 6#8 → (∀ (j : Nat) (w : Byte), j < i → s[j]? = some w → w ≤ 6#8) →
      pack s = .error (.paletteMismatch i)) ∧
    (s.length % 2 = 0 → (∀ v ∈ s, v ≤ 6#8) →
      ∃ b, pack s = .ok b ∧ b.length = s.length / 2 ∧
        ∀ (k : Nat) (x y : Byte), s[2 * k]? = some x → s[2 * k + 1]? = some y → b[k]? = some ((x <<< 4) ||| y))

/-- 40_wire_packer.md R124: unpack gives the high nibble of byte k at 2k and the low nibble at 2k + 1, and unpacking a
packed buffer recovers the pixels, for every even-length valid sequence. -/
def Obligations.UnpackOfPackRecoversThePixels : Prop :=
  (∀ b : List Byte, (unpack b).length = 2 * b.length ∧
    ∀ (k : Nat) (x : Byte), b[k]? = some x →
      (unpack b)[2 * k]? = some (x >>> 4) ∧ (unpack b)[2 * k + 1]? = some (x &&& 0x0F#8)) ∧
  ∀ s : List Byte, s.length % 2 = 0 → (∀ v ∈ s, v ≤ 6#8) → ∃ b, pack s = .ok b ∧ unpack b = s

/-- 40_wire_packer.md R122: the packed frame stream has 192000 bytes, byte k from cells 2k and 2k + 1, and equals the
pack of all cells whenever every cell is valid; a pair never spans two rows. -/
def Obligations.FrameIsThePackOfAllCells : Prop :=
  (∀ m : List Cell,
    (frame m).length = 192000 ∧
    (∀ k, k < 192000 →
      (frame m)[k]? = some (((Memory.read m (2 * k)).extractLsb' 0 4) ++ ((Memory.read m (2 * k + 1)).extractLsb' 0 4))) ∧
    ((∀ a, a < 384000 → Memory.read m a ≤ 6#8) → pack ((List.range 384000).map (Memory.read m)) = .ok (frame m))) ∧
  (∀ k, k < 192000 →
    pixelOf (2 * k) = (2 * k % 800, 2 * k / 800) ∧ pixelOf (2 * k + 1) = ((2 * k + 1) % 800, 2 * k / 800))

/-- 40_wire_packer.md R125: the fill of a valid index is 192000 bytes with both nibbles the index, and equals the frame
of a framebuffer whose every cell is the index. -/
def Obligations.FillIsTheFrameOfOneColour : Prop :=
  ∀ (c : Byte) (m : List Cell), c ≤ 6#8 →
    fill c = List.replicate 192000 ((c <<< 4) ||| c) ∧
    ((∀ a, a < 384000 → Memory.read m a = c) → frame m = fill c)

/-! ## Raw operations and the gate -/

/-- 43_raw_ops.md R180: CMD with the bus open: DC low, one write of ARG.VAL, then completion, or the raise of
BusIOFailure(WRITE_FAILED) if the panel's answer is a failure; with the bus closed, NOT_OPEN and no event. The model's
choices: Done as a step of its own (log entry 1), the operand byte (log entry 7), what the don't-care registers of R36
hold after Done (log entry 23). -/
def Obligations.CmdSendsOneCommandByte : Prop :=
  (∀ s : State, s.pc = .rule 0 → s.busOpen = false →
    exec .cmd s = .next
      { s with
        opnd := s.argVal
        err := .busIOFailure
        detail := 2#2
        active := false
        log := s.log ++ [.done .busIOFailure 2#2] }) ∧
  ∀ s : State, s.pc = .rule 0 → s.busOpen = true →
    let ok := (s.env.drawWrite [s.argVal]).1
    let t1 := { s with opnd := s.argVal, dc := false, pc := .rule 1, log := s.log ++ [.line .dc false] }
    let t2 := { t1 with
      env := (s.env.drawWrite [s.argVal]).2
      pc := if ok then .rule 2 else .abort .busIOFailure writeFailed
      log := s.log ++ [.line .dc false, .write false [s.argVal] ok] }
    exec .cmd s = .next t1 ∧ exec .cmd t1 = .next t2 ∧
    exec .cmd t2 = .next
      (if ok then
        { t2 with
          active := false
          log := s.log ++ [.line .dc false, .write false [s.argVal] true, .done s.err s.detail] }
      else
        { t2 with
          active := false
          err := .busIOFailure
          detail := 1#2
          log := s.log ++ [.line .dc false, .write false [s.argVal] false, .done .busIOFailure 1#2] })

/-- 43_raw_ops.md R181: DATA: as CMD, with DC high. The model's choices are those of CMD (log entries 1, 7 and 23). -/
def Obligations.DataSendsOneDataByte : Prop :=
  (∀ s : State, s.pc = .rule 0 → s.busOpen = false →
    exec .data s = .next
      { s with
        opnd := s.argVal
        err := .busIOFailure
        detail := 2#2
        active := false
        log := s.log ++ [.done .busIOFailure 2#2] }) ∧
  ∀ s : State, s.pc = .rule 0 → s.busOpen = true →
    let ok := (s.env.drawWrite [s.argVal]).1
    let t1 := { s with opnd := s.argVal, dc := true, pc := .rule 1, log := s.log ++ [.line .dc true] }
    let t2 := { t1 with
      env := (s.env.drawWrite [s.argVal]).2
      pc := if ok then .rule 2 else .abort .busIOFailure writeFailed
      log := s.log ++ [.line .dc true, .write true [s.argVal] ok] }
    exec .data s = .next t1 ∧ exec .data t1 = .next t2 ∧
    exec .data t2 = .next
      (if ok then
        { t2 with
          active := false
          log := s.log ++ [.line .dc true, .write true [s.argVal] true, .done s.err s.detail] }
      else
        { t2 with
          active := false
          err := .busIOFailure
          detail := 1#2
          log := s.log ++ [.line .dc true, .write true [s.argVal] false, .done .busIOFailure 1#2] })

/-- 43_raw_ops.md R183, 60_exceptions.md R230: with the bus closed every operation but INIT and SLEEP raises
BusIOFailure(NOT_OPEN) in its first step, RENDER and CLEAR after their validation, with no panel event. -/
def Obligations.ClosedBusStopsOperations : Prop :=
  ∀ (i : Instr) (s : State), s.pc = .rule 0 → s.busOpen = false →
    (i = .cmd ∨ i = .data ∨ i = .waitIdle ∨ i = .refresh ∨
      (i = .render ∧ s.canvasW = 800#16 ∧ s.canvasH = 480#16 ∧ ∀ a, a < 384000 → Memory.read s.fb a ≤ 6#8) ∨
      (i = .clear ∧ s.argVal ≤ 6#8)) →
    ∃ t, exec i s = .next t ∧ t.log = s.log ++ [.done .busIOFailure 2#2] ∧ t.err = .busIOFailure ∧ t.detail = 2#2 ∧
      t.active = false ∧ t.fsm = s.fsm ∧ t.pwr = s.pwr ∧ t.rst = s.rst ∧ t.dc = s.dc ∧ t.busOpen = false ∧
      t.errinfo = s.errinfo ∧ t.env = s.env

/-- 43_raw_ops.md R182, 41_bus_primitives.md R148: WAIT_IDLE with the bus open, r busy samples (fewer than a configured
timeout) and then an idle one completes with the trace (Poll(busy), Delay(5))^r, Poll(idle). -/
def Obligations.WaitIdleReturnsAfterBusySamples : Prop :=
  ∀ (s : State) (r : Nat), s.pc = .rule 0 → s.busOpen = true →
    s.env.pollsGive (pollSamples s.cfg r) = true → withinTimeout s.cfg r = true →
    (∃ t, exec .waitIdle s = .next t ∧ t.log = s.log ++ [.poll s.env.drawPoll.1]) ∧
    ∃ t, opRun .waitIdle (2 * r + 2) s = .next t ∧ t.active = false ∧ t.err = s.err ∧ t.detail = s.detail ∧
      t.log = s.log ++ busyTrace s.cfg r ++ [.poll s.cfg.busyIdleLevel, .done s.err s.detail] ∧
      t.fsm = s.fsm ∧ t.pwr = s.pwr ∧ t.rst = s.rst ∧ t.dc = s.dc ∧ t.busOpen = true

/-- 41_bus_primitives.md R148, 43_raw_ops.md R182: with a timeout of N ≥ 1 and N busy samples, WAIT_IDLE raises
BusIOFailure(BUSY_TIMEOUT) after the N-th, with no delay after it. -/
def Obligations.WaitIdleTimesOutAtTheNthSample : Prop :=
  ∀ (s : State) (limit : Nat), s.pc = .rule 0 → s.busOpen = true → s.cfg.busyTimeoutPolls = some limit → 1 ≤ limit →
    s.env.pollsGive (List.replicate limit (!s.cfg.busyIdleLevel)) = true →
    ∃ t, opRun .waitIdle (2 * limit) s = .next t ∧ t.active = false ∧ t.err = .busIOFailure ∧ t.detail = 3#2 ∧
      t.log = s.log ++ busyTrace s.cfg (limit - 1) ++
        [.poll (!s.cfg.busyIdleLevel), .done .busIOFailure 3#2] ∧ t.fsm = s.fsm ∧ t.busOpen = true

/-- 60_exceptions.md R233, 41_bus_primitives.md R148: with no timeout, WAIT_IDLE runs on for as long as the samples read
busy: after any number k of busy samples it is still active. -/
def Obligations.WaitIdleHangsWhileBusy : Prop :=
  ∀ (s : State) (k : Nat), s.pc = .rule 0 → s.busOpen = true → s.active = true → s.cfg.busyTimeoutPolls = none →
    s.env.pollsGive (List.replicate k (!s.cfg.busyIdleLevel)) = true →
    ∃ t, opRun .waitIdle (2 * k) s = .next t ∧ t.active = true ∧ t.log = s.log ++ busyTrace s.cfg k

/-! ## INIT -/

/-- 60_exceptions.md R223: INIT with a live session and SLEEP with none raise SequenceError in their first step, with no
panel event and no other change. What the
don't-care registers of R36 hold after Done is the model's choice (log entry 23). -/
def Obligations.OutOfOrderOperationsRaiseSequenceError : Prop :=
  ∀ s : State, s.pc = .rule 0 →
    let t := { s with
      err := .sequenceError
      detail := 0#2
      active := false
      log := s.log ++ [.done .sequenceError 0#2] }
    ((s.fsm = .poweredUp ∨ s.fsm = .idle) → exec .init s = .next t) ∧
    ((s.fsm = .uninit ∨ s.fsm = .asleep) → exec .sleep s = .next t)

/-- 42_initialize.md R161, R162: INIT's first panel event is Line(PWR, 1), its second the bus open; a failed open ends
INIT at once with OPEN_FAILED, the session live and RST, DC and the bus as they were. The raise as a step of its own, and
what the don't-care registers of R36 hold after Done, are the model's choices (log entries 1 and 23). -/
def Obligations.InitPowersUpAndStopsAtAFailedOpen : Prop :=
  ∀ s : State, s.pc = .rule 0 → (s.fsm = .uninit ∨ s.fsm = .asleep) →
    let ok := s.env.drawOpen.1
    let t1 := { s with fsm := .poweredUp, pwr := true, pc := .rule 1, log := s.log ++ [.line .pwr true] }
    exec .init s = .next t1 ∧
    (∃ t2, exec .init t1 = .next t2 ∧
      t2.log = s.log ++ [.line .pwr true, .opened s.cfg.busClockHz s.cfg.busMode ok] ∧
      (ok = true → t2 = { t1 with busOpen := true, pc := .rule 2, env := t2.env, log := t2.log }) ∧
      (ok = false → exec .init t2 = .next
        { t1 with
          env := t2.env
          pc := t2.pc
          err := .busIOFailure
          detail := 0#2
          active := false
          log := t2.log ++ [.done .busIOFailure 0#2] }))

/-- 42_initialize.md R163: after a successful open RST goes 1, 0, 1 with delays of 20, 2 and 20 ms, and nothing else
happens. What the timer holds after the pulse is the model's choice (log entry 13): R235 calls it don't-care. -/
def Obligations.InitDrivesTheResetPulse : Prop :=
  ∀ s : State, s.pc = .rule 2 →
    opRun .init 6 s = .next
      { s with
        rst := true
        timer := delayTicks s.cfg 20
        pc := .rule 8
        log := s.log ++
          [.line .rst true, .delay 20, .line .rst false, .delay 2, .line .rst true, .delay 20] }

/-- 42_initialize.md R160 to R166, 70_reset_and_hazards.md R261: INIT from no session, with a configuration that meets
R97, a successful open, r busy samples before an idle one and every write successful, completes with exactly this trace:
power, open, reset pulse, poll, settle delay, then every byte of the 19 entries in order, each on its own; it ends in
IDLE with PWR, RST and the bus up, and its delays come to 72 ms and the polls'. -/
def Obligations.InitSendsTheWholeTable : Prop :=
  ∀ (s : State) (r : Nat), s.pc = .rule 0 → (s.fsm = .uninit ∨ s.fsm = .asleep) → configOk s.cfg = true →
    s.env.drawOpen.1 = true → s.env.pollsGive (pollSamples s.cfg r) = true → withinTimeout s.cfg r = true →
    s.env.writesSucceed ((tableBytes s.cfg.initTable).map (fun x => [x.2])) = true →
    (∃ t, exec .init s = .next t ∧ t.fsm = .poweredUp ∧ t.log = s.log ++ [.line .pwr true]) ∧
    ∃ t, opRun .init (11 + 2 * r + 2 * (tableBytes s.cfg.initTable).length) s = .next t ∧
      t.log = s.log ++
        [.line .pwr true, .opened s.cfg.busClockHz s.cfg.busMode true,
         .line .rst true, .delay 20, .line .rst false, .delay 2, .line .rst true, .delay 20] ++
        pollTrace s.cfg r ++ [.delay 30] ++ byteTrace (tableBytes s.cfg.initTable) ++ [.done s.err s.detail] ∧
      t.fsm = .idle ∧ t.active = false ∧ t.err = s.err ∧ t.detail = s.detail ∧
      t.pwr = true ∧ t.rst = true ∧ t.busOpen = true ∧
      minMs t.log = minMs s.log + 72 + 5 * r

/-- 42_initialize.md R166, R167, 60_exceptions.md R228: if the writes of the first q bytes of the table succeed and the
next one fails, INIT sends nothing more: it ends with WRITE_FAILED, the session still POWERED_UP and the bus open. The
table is sent from its first entry after the settle delay. -/
def Obligations.InitStopsAtTheFailingByte : Prop :=
  ∀ (s : State) (q : Nat) (level : Level) (b : Byte), s.pc = .rule 11 → configOk s.cfg = true →
    (tableBytes s.cfg.initTable)[q]? = some (level, b) →
    s.env.writesSucceed (((tableBytes s.cfg.initTable).take q).map (fun x => [x.2])) = true →
    ((s.env.afterWrites (((tableBytes s.cfg.initTable).take q).map (fun x => [x.2]))).drawWrite [b]).1 = false →
    ∃ t, opRun .init (2 * q + 4) s = .next t ∧
      t.log = s.log ++ [.delay 30] ++ byteTrace ((tableBytes s.cfg.initTable).take q) ++
        [.line .dc level, .write level [b] false, .done .busIOFailure 1#2] ∧
      t.fsm = s.fsm ∧ t.active = false ∧ t.err = .busIOFailure ∧ t.detail = 1#2 ∧ t.dc = level ∧
      t.pwr = s.pwr ∧ t.rst = s.rst ∧ t.busOpen = s.busOpen

/-- 42_initialize.md R167: in a good state, the step that ends INIT in an error other than SequenceError leaves the
session live in POWERED_UP with PWR 1, and RST, DC and the bus as the table says for each place of the raise. -/
def Obligations.InitErrorsLeaveTheSessionLive : Prop :=
  ∀ s t : State, s.Inv → s.active = true → decodeOpc s.op = .init → exec .init s = .next t → t.active = false →
    t.err ≠ .noError →
    (t.err = .sequenceError ∧ t.fsm = s.fsm ∧ t.pwr = s.pwr ∧ t.rst = s.rst ∧ t.dc = s.dc ∧ t.busOpen = s.busOpen) ∨
    (t.err = .busIOFailure ∧ t.fsm = .poweredUp ∧ t.pwr = true ∧
      ((t.detail = 0#2 ∧ t.rst = false ∧ t.dc = false ∧ t.busOpen = false) ∨
       (t.detail = 3#2 ∧ t.rst = true ∧ t.dc = false ∧ t.busOpen = true) ∨
       (t.detail = 1#2 ∧ t.rst = true ∧ t.dc = s.dc ∧ t.busOpen = true)))

/-! ## The poll loop, in every operation -/

/-- 41_bus_primitives.md R148, 60_exceptions.md R228: after a busy sample of any operation's PollIdle: with N configured
and N samples counted the next step is the raise of BUSY_TIMEOUT, with no delay; otherwise it is Delay(5), and the step
after that samples again, counting a busy sample if a timeout is configured. The raise as a step of its own, when the
hidden count is updated, and what the don't-care registers of R36 hold after Done, are the model's choices (log entries
1, 8 and 23). -/
def Obligations.ABusySampleIsFollowedByADelayOrTheTimeout : Prop :=
  ∀ s t : State, s.active = true → exec (decodeOpc s.op) s = .next t → t.log = s.log ++ [.poll (!s.cfg.busyIdleLevel)] →
    (∀ limit, s.cfg.busyTimeoutPolls = some limit → limit ≤ t.n →
      exec (decodeOpc s.op) t = .next
        { t with
          err := .busIOFailure
          detail := 3#2
          active := false
          log := t.log ++ [.done .busIOFailure 3#2] }) ∧
    ((∀ limit, s.cfg.busyTimeoutPolls = some limit → t.n < limit) →
      ∃ u v, exec (decodeOpc s.op) t = .next u ∧ u.log = t.log ++ [.delay 5] ∧
        exec (decodeOpc s.op) u = .next v ∧ v.log = u.log ++ [.poll t.env.drawPoll.1] ∧
        (s.cfg.busyTimeoutPolls ≠ none → t.env.drawPoll.1 ≠ s.cfg.busyIdleLevel → v.n = t.n + 1))

/-! ## Frame operations -/

/-- 44_frame_ops.md R190: RENDER of a canvas that is not 800×480 raises DimensionMismatch with no event, whatever the bus
and the framebuffer hold. What the
don't-care registers of R36 hold after Done is the model's choice (log entry 23). -/
def Obligations.RenderRejectsOtherDimensions : Prop :=
  ∀ s : State, s.pc = .rule 0 → (s.canvasW ≠ 800#16 ∨ s.canvasH ≠ 480#16) →
    exec .render s = .next
      { s with
        err := .dimensionMismatch
        detail := 0#2
        active := false
        log := s.log ++ [.done .dimensionMismatch 0#2] }

/-- 44_frame_ops.md R191: the validation pass stops at the lowest invalid cell, records its index in ERRINFO.PIX, and
raises PaletteMismatch with no panel event, whether or not the bus is open. The hidden pixel counter, and what the
don't-care registers of R36 hold after Done, are the model's choices (log entries 8 and 23). -/
def Obligations.RenderRejectsTheLowestInvalidCell : Prop :=
  ∀ (s : State) (p : Nat), s.pc = .rule 0 → s.canvasW = 800#16 → s.canvasH = 480#16 → p < 384000 →
    ¬ Memory.read s.fb p ≤ 6#8 → (∀ q, q < p → Memory.read s.fb q ≤ 6#8) →
    ∃ t, exec .render s = .next t ∧
      t = { s with
        p := p
        errinfo := t.errinfo
        err := .paletteMismatch
        detail := 0#2
        active := false
        log := s.log ++ [.done .paletteMismatch 0#2] } ∧
      t.errinfo.toNat = p

/-- 44_frame_ops.md R190, R192, R193, R197: RENDER of a valid canvas with the bus open, every write successful and r1,
r2, r3 busy samples (fewer than a configured timeout) in its three polls sends DTM, the whole frame in one write with
nothing in between, and the handshake, and completes. The hidden pixel counter in the first step, and Done as a step of
its own, are the model's choices (log entries 8 and 1). -/
def Obligations.RenderSendsTheFrameAndRefreshes : Prop :=
  ∀ (s : State) (r1 r2 r3 : Nat), s.pc = .rule 0 → s.busOpen = true → s.canvasW = 800#16 → s.canvasH = 480#16 →
    (∀ a, a < 384000 → Memory.read s.fb a ≤ 6#8) →
    withinTimeout s.cfg r1 = true → withinTimeout s.cfg r2 = true → withinTimeout s.cfg r3 = true →
    s.env.writesSucceed [[s.cfg.cmdDtm], frame s.fb, [s.cfg.cmdPowerOn], [s.cfg.cmdRefresh], [0x00#8],
      [s.cfg.cmdPowerOff], [0x00#8]] = true →
    s.env.pollsGive (pollSamples s.cfg r1 ++ pollSamples s.cfg r2 ++ pollSamples s.cfg r3) = true →
    exec .render s = .next
      { s with p := 383999, dc := false, pc := .rule 1, log := s.log ++ [.line .dc false] } ∧
    ∃ t, opRun .render (18 + 2 * (r1 + r2 + r3)) s = .next t ∧
      t.log = s.log ++ sentEvents false [s.cfg.cmdDtm] ++ sentEvents true (frame s.fb) ++
        refreshTrace s.cfg r1 r2 r3 ++ [.done s.err s.detail] ∧
      t.active = false ∧ t.err = s.err ∧ t.detail = s.detail ∧ t.errinfo = s.errinfo ∧ t.fsm = s.fsm ∧ t.fb = s.fb ∧
      t.pwr = s.pwr ∧ t.rst = s.rst ∧ t.dc = true ∧ t.busOpen = true

/-- 44_frame_ops.md R196, R197: REFRESH with the bus open, every write successful and r1, r2, r3 busy samples (fewer than
a configured timeout) in its three polls sends exactly the handshake and completes. -/
def Obligations.RefreshRunsTheHandshake : Prop :=
  ∀ (s : State) (r1 r2 r3 : Nat), s.pc = .rule 0 → s.busOpen = true →
    withinTimeout s.cfg r1 = true → withinTimeout s.cfg r2 = true → withinTimeout s.cfg r3 = true →
    s.env.writesSucceed [[s.cfg.cmdPowerOn], [s.cfg.cmdRefresh], [0x00#8], [s.cfg.cmdPowerOff], [0x00#8]] = true →
    s.env.pollsGive (pollSamples s.cfg r1 ++ pollSamples s.cfg r2 ++ pollSamples s.cfg r3) = true →
    exec .refresh s = .next { s with dc := false, pc := .handshake 1, log := s.log ++ [.line .dc false] } ∧
    ∃ t, opRun .refresh (14 + 2 * (r1 + r2 + r3)) s = .next t ∧
      t.log = s.log ++ refreshTrace s.cfg r1 r2 r3 ++ [.done s.err s.detail] ∧
      t.active = false ∧ t.err = s.err ∧ t.detail = s.detail ∧ t.fsm = s.fsm ∧
      t.pwr = s.pwr ∧ t.rst = s.rst ∧ t.dc = true ∧ t.busOpen = true

/-- 44_frame_ops.md R199, 60_exceptions.md R230: CLEAR of an invalid index raises PaletteMismatch with no event, whether
or not the bus is open; ERRINFO stays. The operand byte, and what the don't-care registers of R36 hold after Done, are
the model's choices (log entries 7 and 23). -/
def Obligations.ClearRejectsAnInvalidIndex : Prop :=
  ∀ s : State, s.pc = .rule 0 → ¬ s.argVal ≤ 6#8 →
    exec .clear s = .next
      { s with
        opnd := s.argVal
        err := .paletteMismatch
        detail := 0#2
        active := false
        log := s.log ++ [.done .paletteMismatch 0#2] }

/-- 44_frame_ops.md R199, R197, 40_wire_packer.md R125: CLEAR of a valid index with the bus open, every write successful
and r1, r2, r3 busy samples (fewer than a configured timeout) in its three polls sends DTM, 192000 bytes with both
nibbles the index, and the handshake, and completes; it reads neither CANVAS nor the framebuffer (no hypothesis speaks of
them) and leaves both. The operand byte, and Done as a step of its own, are the model's choices (log entries 7 and 1). -/
def Obligations.ClearSendsOneColourAndRefreshes : Prop :=
  ∀ (s : State) (r1 r2 r3 : Nat), s.pc = .rule 0 → s.busOpen = true → s.argVal ≤ 6#8 →
    withinTimeout s.cfg r1 = true → withinTimeout s.cfg r2 = true → withinTimeout s.cfg r3 = true →
    s.env.writesSucceed [[s.cfg.cmdDtm], List.replicate 192000 ((s.argVal <<< 4) ||| s.argVal), [s.cfg.cmdPowerOn],
      [s.cfg.cmdRefresh], [0x00#8], [s.cfg.cmdPowerOff], [0x00#8]] = true →
    s.env.pollsGive (pollSamples s.cfg r1 ++ pollSamples s.cfg r2 ++ pollSamples s.cfg r3) = true →
    exec .clear s = .next
      { s with opnd := s.argVal, dc := false, pc := .rule 1, log := s.log ++ [.line .dc false] } ∧
    ∃ t, opRun .clear (18 + 2 * (r1 + r2 + r3)) s = .next t ∧
      t.log = s.log ++ sentEvents false [s.cfg.cmdDtm] ++
        sentEvents true (List.replicate 192000 ((s.argVal <<< 4) ||| s.argVal)) ++
        refreshTrace s.cfg r1 r2 r3 ++ [.done s.err s.detail] ∧
      t.active = false ∧ t.err = s.err ∧ t.detail = s.detail ∧ t.errinfo = s.errinfo ∧ t.fsm = s.fsm ∧ t.fb = s.fb ∧
      t.canvasW = s.canvasW ∧ t.canvasH = s.canvasH ∧
      t.pwr = s.pwr ∧ t.rst = s.rst ∧ t.dc = true ∧ t.busOpen = true

/-- 40_wire_packer.md R123, R96: in a good state every byte of RENDER's bulk write has both nibbles in 0 to 6, and the
same holds of CLEAR's. -/
def Obligations.BulkBytesHoldPaletteIndices : Prop :=
  ∀ (i : Instr) (s t : State) (dc : Level) (bytes : List Byte) (ok : Bool), s.Inv → s.active = true →
    decodeOpc s.op = i → (i = .render ∨ i = .clear) → s.pc = .rule 3 → exec i s = .next t →
    t.log = s.log ++ [.write dc bytes ok] →
    bytes.length = 192000 ∧ dc = true ∧
      ∀ b ∈ bytes, b.extractLsb' 4 4 ≤ 6#4 ∧ b.extractLsb' 0 4 ≤ 6#4

/-! ## SLEEP -/

/-- 45_sleep.md R210, R212: SLEEP of a live session with the bus open and both writes successful: exactly these nine
events, then completion in ASLEEP with all lines 0 and the bus closed. -/
def Obligations.SleepSendsDeepSleepAndReleases : Prop :=
  ∀ s : State, s.pc = .rule 0 → (s.fsm = .poweredUp ∨ s.fsm = .idle) → s.busOpen = true →
    s.env.writesSucceed [[s.cfg.cmdDeepSleep], [0xA5#8]] = true →
    exec .sleep s = .next
      { s with errPending := false, dc := false, pc := .rule 1, log := s.log ++ [.line .dc false] } ∧
    ∃ t, opRun .sleep 10 s = .next t ∧
      t.log = s.log ++
        [.line .dc false, .write false [s.cfg.cmdDeepSleep] true, .line .dc true, .write true [0xA5#8] true,
         .delay 2000, .close, .line .rst false, .line .dc false, .line .pwr false, .done s.err s.detail] ∧
      t.fsm = .asleep ∧ t.active = false ∧ t.err = s.err ∧ t.detail = s.detail ∧
      t.pwr = false ∧ t.rst = false ∧ t.dc = false ∧ t.busOpen = false

/-- 45_sleep.md R211, R212: a failed deep-sleep byte skips the rest of the deep-sleep steps; the teardown still runs, and
BusIOFailure(WRITE_FAILED) is reported in the last step, with the session over. -/
def Obligations.SleepTearsDownAfterAFailedWrite : Prop :=
  ∀ s : State, s.pc = .rule 0 → (s.fsm = .poweredUp ∨ s.fsm = .idle) → s.busOpen = true →
    let d1 := s.env.drawWrite [s.cfg.cmdDeepSleep]
    let d2 := d1.2.drawWrite [0xA5#8]
    let ends := fun (k : Nat) (sent : List Event) =>
      ∃ t, opRun .sleep k s = .next t ∧
        t.log = s.log ++ sent ++
          [.close, .line .rst false, .line .dc false, .line .pwr false, .done .busIOFailure 1#2] ∧
        t.fsm = .asleep ∧ t.active = false ∧ t.err = .busIOFailure ∧ t.detail = 1#2 ∧
        t.pwr = false ∧ t.rst = false ∧ t.dc = false ∧ t.busOpen = false
    (d1.1 = false → ends 7 [.line .dc false, .write false [s.cfg.cmdDeepSleep] false]) ∧
    (d1.1 = true → d2.1 = false →
      ends 9 [.line .dc false, .write false [s.cfg.cmdDeepSleep] true, .line .dc true, .write true [0xA5#8] false])

/-- 45_sleep.md R210: SLEEP of a live session whose bus never opened sends nothing, skips the delay and releases the
lines: three events. What the don't-care registers of R36 hold after Done is the model's choice (log entry 23). -/
def Obligations.SleepWithAClosedBusOnlyReleases : Prop :=
  ∀ s : State, s.pc = .rule 0 → (s.fsm = .poweredUp ∨ s.fsm = .idle) → s.busOpen = false →
    exec .sleep s = .next
      { s with errPending := false, rst := false, pc := .rule 7, log := s.log ++ [.line .rst false] } ∧
    opRun .sleep 4 s = .next
      { s with
        errPending := false
        rst := false
        dc := false
        pwr := false
        pc := .rule 9
        fsm := .asleep
        active := false
        log := s.log ++ [.line .rst false, .line .dc false, .line .pwr false, .done s.err s.detail] }

/-- 45_sleep.md R213: when a step of SLEEP has left the session over, a further SLEEP is a SequenceError with no panel
event, and an INIT passes its state check. What the
don't-care registers of R36 hold after Done is the model's choice (log entry 23). -/
def Obligations.SleepEndsTheSessionOnce : Prop :=
  ∀ (s t : State) (v : Word), exec .sleep s = .next t → t.fsm = .asleep → s.fsm ≠ .asleep →
    t.active = false ∧
    (opcOf v = 0x8#4 → exec .sleep (t.issue v) = .next
      { t.issue v with
        err := .sequenceError
        detail := 0#2
        active := false
        log := t.log ++ [.issue 0x8#4, .done .sequenceError 0#2] }) ∧
    (opcOf v = 0x1#4 → ∃ u, exec .init (t.issue v) = .next u ∧ u.fsm = .poweredUp ∧
      u.log = t.log ++ [.issue 0x1#4, .line .pwr true])

/-! ## Reserved codes and errors -/

/-- 60_exceptions.md R222, 30_encoding.md R92: a reserved operation raises IllegalOp in its first step: no panel event,
and the FSM, the lines, the bus and ERRINFO are unchanged. What the don't-care registers of R36 hold after Done is the
model's choice (log entry 23). -/
def Obligations.ReservedCodesRaiseIllegalOp : Prop :=
  ∀ (opc : BitVec 4) (s : State), s.pc = .rule 0 →
    exec (.illegal opc) s = .next
      { s with
        err := .illegalOp
        detail := 0#2
        active := false
        log := s.log ++ [.done .illegalOp 0#2] }

/-- 41_bus_primitives.md R143 to R145, R150, 60_exceptions.md R226: after a failed write of an operation other than SLEEP
the very next step of the operation is the raise of BusIOFailure(WRITE_FAILED): nothing is retried and
nothing is rolled back. The raise as a step of its own, and what the don't-care registers of R36 hold after Done, are the
model's choices (log entries 1 and 23). -/
def Obligations.AFailedWriteEndsTheOperation : Prop :=
  ∀ (s t : State) (dc : Level) (bytes : List Byte), s.active = true → decodeOpc s.op ≠ .sleep →
    exec (decodeOpc s.op) s = .next t → t.log = s.log ++ [.write dc bytes false] →
    exec (decodeOpc s.op) t = .next
      { t with
        err := .busIOFailure
        detail := 1#2
        active := false
        log := s.log ++ [.write dc bytes false, .done .busIOFailure 1#2] }

/-- 60_exceptions.md R226, R227: an abort writes ERR and DETAIL, appends Done and ends the operation; the FSM, the lines
and the bus keep the values they had, but for the FSM at SLEEP's deferred failure. -/
def Obligations.AbortsRollNothingBack : Prop :=
  ∀ (i : Instr) (s t : State) (e : Err) (d : BitVec 2), exec i s = .next t → t.log = s.log ++ [.done e d] →
    t.err = e ∧ t.detail = d ∧ t.active = false ∧ t.pwr = s.pwr ∧ t.rst = s.rst ∧ t.dc = s.dc ∧
    t.busOpen = s.busOpen ∧ t.env = s.env ∧
    (s.err = .noError → e ≠ .noError → t.fsm = s.fsm ∨ (i = .sleep ∧ s.pc = .rule 9))

/-- 60_exceptions.md R224, R220, R221: in a good state the step that ends an operation records one of the errors that the
cause table gives that operation, or none. -/
def Obligations.ErrorsAreThoseOfTheCauseTable : Prop :=
  ∀ s t : State, s.Inv → s.active = true → exec (decodeOpc s.op) s = .next t → t.active = false →
    let ok := t.err = .noError ∧ t.detail = 0#2
    let bus := fun (ds : List (BitVec 2)) => t.err = .busIOFailure ∧ t.detail ∈ ds
    let plain := fun (e : Err) => t.err = e ∧ t.detail = 0#2
    match decodeOpc s.op with
    | .illegal _ => plain .illegalOp
    | .init => ok ∨ bus [0#2, 1#2, 3#2] ∨ plain .sequenceError
    | .cmd => ok ∨ bus [1#2, 2#2]
    | .data => ok ∨ bus [1#2, 2#2]
    | .waitIdle => ok ∨ bus [2#2, 3#2]
    | .render => ok ∨ bus [1#2, 2#2, 3#2] ∨ plain .dimensionMismatch ∨ plain .paletteMismatch
    | .refresh => ok ∨ bus [1#2, 2#2, 3#2]
    | .clear => ok ∨ bus [1#2, 2#2, 3#2] ∨ plain .paletteMismatch
    | .sleep => ok ∨ bus [1#2] ∨ plain .sequenceError

/-! ## Whole-machine rules -/

/-- 00_scope.md R11, 10_state.md R40: every step of an operation appends exactly one event; a step of the machine appends
at most one, and no step takes an event away. -/
def Obligations.EveryStepAppendsOneEvent : Prop :=
  (∀ (i : Instr) (s t : State), exec i s = .next t → ∃ e, t.log = s.log ++ [e]) ∧
  (∀ s t : State, step s = .next t → t.log = s.log ∨ ∃ e, t.log = s.log ++ [e])

/-- 10_state.md R34, R35, 41_bus_primitives.md R140: over any step but a block reset, a line changes only with the Line
event that sets it, and the bus state only with an Open or a Close event. -/
def Obligations.OnlySetLineMovesALine : Prop :=
  ∀ s t : State, step s = .next t → (∀ contents rest, s.sched ≠ .blockReset contents :: rest) →
    (t.pwr ≠ s.pwr → t.log = s.log ++ [.line .pwr t.pwr]) ∧
    (t.rst ≠ s.rst → t.log = s.log ++ [.line .rst t.rst]) ∧
    (t.dc ≠ s.dc → t.log = s.log ++ [.line .dc t.dc]) ∧
    (t.busOpen ≠ s.busOpen →
      (t.busOpen = true ∧ t.log = s.log ++ [.opened s.cfg.busClockHz s.cfg.busMode true]) ∨
      (t.busOpen = false ∧ t.log = s.log ++ [.close]))

/-- 10_state.md R24, R25, R39, R41, 20_memory.md R68, R75: the frame of every operation: a step of any operation leaves
the configuration, ARG, CANVAS, REJ, the operation code, every cell of the framebuffer, and the host's side unchanged;
ERR and DETAIL change only in the step that ends the operation; the session's state is INIT's and SLEEP's, ERRINFO
RENDER's; the count of busy samples is the polling operations' and changes only with a sample, the timer's count only
with a delay. Which hidden counter an operation leaves, the operand byte, the timer's count and what the don't-care
registers of R36 hold after Done are the model's choice (log entries 8, 7, 13 and 23), and so are the fields of the
host's side (log entries 2, 3 and 11). -/
def Obligations.OperationsLeaveHostStateUnchanged : Prop :=
  ∀ (i : Instr) (s t : State), exec i s = .next t →
    t.cfg = s.cfg ∧ t.argVal = s.argVal ∧ t.canvasW = s.canvasW ∧ t.canvasH = s.canvasH ∧ t.rej = s.rej ∧
    t.op = s.op ∧ (∀ a, Memory.read t.fb a = Memory.read s.fb a) ∧ t.hostProg = s.hostProg ∧ t.resp = s.resp ∧
    t.sched = s.sched ∧ t.turns = s.turns ∧ t.hostLeft = s.hostLeft ∧ t.env.busyIns = s.env.busyIns ∧
    t.env.nBusyIn = s.env.nBusyIn ∧
    (i ≠ .init → i ≠ .sleep → t.fsm = s.fsm ∧ t.pwr = s.pwr ∧ t.rst = s.rst ∧ t.busOpen = s.busOpen) ∧
    (i ≠ .render → t.errinfo = s.errinfo ∧ t.k = s.k ∧ t.p = s.p) ∧
    (i ≠ .init → t.i = s.i ∧ t.j = s.j) ∧ (i ≠ .sleep → t.errPending = s.errPending) ∧
    (i ≠ .cmd → i ≠ .data → i ≠ .clear → t.opnd = s.opnd) ∧
    (i ≠ .init → i ≠ .waitIdle → i ≠ .render → i ≠ .refresh → i ≠ .clear → t.n = s.n) ∧
    (t.n ≠ s.n → ∃ b, t.log = s.log ++ [.poll b]) ∧ (t.timer ≠ s.timer → ∃ ms, t.log = s.log ++ [.delay ms]) ∧
    (t.env.opens ≠ s.env.opens ∨ t.env.nOpen ≠ s.env.nOpen → i = .init) ∧
    (i = .waitIdle → t.dc = s.dc) ∧ (t.active = true → t.err = s.err ∧ t.detail = s.detail)

/-- 10_state.md R39: no step changes the configuration. -/
def Obligations.NoStepChangesTheConfiguration : Prop :=
  ∀ s t : State, step s = .next t → t.cfg = s.cfg

/-- 10_state.md R32: the full set of FSM transitions: in a good state a step changes the FSM only by INIT's state check,
by INIT's completion, by SLEEP's completion or by a block reset. -/
def Obligations.FsmChangesOnlyByItsTransitions : Prop :=
  ∀ s t : State, s.Inv → step s = .next t → t.fsm ≠ s.fsm →
    ((s.fsm = .uninit ∨ s.fsm = .asleep) ∧ t.fsm = .poweredUp ∧ s.active = true ∧ decodeOpc s.op = .init ∧
      s.pc = .rule 0) ∨
    (s.fsm = .poweredUp ∧ t.fsm = .idle ∧ s.active = true ∧ decodeOpc s.op = .init ∧ s.pc = .rule 16 ∧
      t.active = false) ∨
    ((s.fsm = .idle ∨ s.fsm = .poweredUp) ∧ t.fsm = .asleep ∧ s.active = true ∧ decodeOpc s.op = .sleep ∧
      s.pc = .rule 9 ∧ t.active = false) ∨
    (t.fsm = .uninit ∧ ∃ contents rest, s.sched = .blockReset contents :: rest)

/-- 20_memory.md R74, R67, 10_state.md R27, 70_reset_and_hazards.md R256: while an operation is active a step of the host
changes only REJ and the host's side; and a step of any operation does the same whatever REJ and the host's side are. So
the host cannot change anything the operation reads. -/
def Obligations.HostStepsDoNotDisturbOperations : Prop :=
  (∀ s : State, s.active = true → s.hostStep = s.hostSide s.hostStep) ∧
  (∀ (i : Instr) (s u : State), exec i (s.hostSide u) = hostSideOf (exec i s) u)

/-- 20_memory.md R60: every step keeps the canonical form of the framebuffer, whatever else the state is. -/
def Obligations.StepsKeepTheFramebufferForm : Prop :=
  ∀ s t : State, Memory.wf s.fb = true → step s = .next t → Memory.wf t.fb = true

/-- The invariant State.Inv holds at State.reset. -/
def Obligations.ResetStateIsGood : Prop := State.reset.Inv

/-- 10_state.md R31, R34, R35, R41, 20_memory.md R70, 41_bus_primitives.md R141, R142, 42_initialize.md R161, R167,
45_sleep.md R212: every step keeps State.Inv: lines and bus released outside a session, powered during it, flags 0 while
active, counters in bounds, the sequencer at a position of its rule with the bus open wherever it writes. -/
def Obligations.StepsKeepGoodStatesGood : Prop :=
  ∀ s t : State, s.Inv → step s = .next t → t.Inv

/-- 60_exceptions.md R226, R229, R231: from a good state every step is a next state: no operation, no host access, no
block reset stops the machine. -/
def Obligations.GoodStatesAlwaysStep : Prop :=
  ∀ s : State, s.Inv → ∃ t, step s = .next t

/-- 41_bus_primitives.md R142, 30_encoding.md R95: in a good state every write of the active operation goes to an open
bus, is not empty, and is logged with the level of DC. -/
def Obligations.WritesGoToAnOpenBus : Prop :=
  ∀ s t : State, s.Inv → s.active = true → exec (decodeOpc s.op) s = .next t → s.sendsSafely t

/-- 41_bus_primitives.md R147, 00_scope.md R5, R6: every delay of an operation is one of the durations of R5 and R6, and
its count is the least number of ticks that lasts at least that long. That the timer holds this count after the delay is
the model's choice (log entry 13): 60_exceptions.md R235 calls its state don't-care between delays. -/
def Obligations.DelaysLastAtLeastTheirMinimum : Prop :=
  ∀ (i : Instr) (s t : State) (ms : Nat), exec i s = .next t → t.log = s.log ++ [.delay ms] →
    ms ∈ [20, 2, 30, 5, 2000] ∧ ms * s.cfg.tickHz ≤ t.timer * 1000 ∧
      ∀ k, ms * s.cfg.tickHz ≤ k * 1000 → t.timer ≤ k

/-- 20_memory.md R66: a host read changes nothing but the answer and the panel's BUSY_IN answers to come. -/
def Obligations.HostReadsHaveNoSideEffect : Prop :=
  ∀ (s : State) (addr n : Nat), ∃ r ins k,
    s.hostRead addr n = { s with resp := r, env := { s.env with busyIns := ins, nBusyIn := k } }
end

