-- ==== Sys2Proof/Laws/Memory.lean ====
section
/-! SUPPORT. The framebuffer's laws: a read after a write, and that every operation keeps the canonical form. -/

namespace Sys2Proof.Machine

@[simp] theorem Memory.read_nil (a : Nat) : Memory.read [] a = unlistedCell := rfl

theorem Memory.read_cons (c : Host.Cell) (r : List Host.Cell) (a : Nat) :
    Memory.read (c :: r) a = if c.1 = a then c.2 else Memory.read r a := rfl

theorem Memory.wfFrom_cons (lo : Nat) (c : Host.Cell) (r : List Host.Cell) :
    Memory.wfFrom lo (c :: r) = true ↔
      lo ≤ c.1 ∧ c.1 < npix ∧ c.2 ≠ unlistedCell ∧ Memory.wfFrom (c.1 + 1) r = true := by
  simp [Memory.wfFrom, and_assoc]

theorem Memory.wfFrom_mono {lo hi : Nat} {m : List Host.Cell} (h : lo ≤ hi) (hm : Memory.wfFrom hi m = true) :
    Memory.wfFrom lo m = true := by
  cases m with
  | nil => rfl
  | cons c r =>
    rw [Memory.wfFrom_cons] at hm ⊢
    exact ⟨by omega, hm.2⟩

/-- Below its first address a canonical list holds nothing. -/
theorem Memory.read_below {lo a : Nat} {m : List Host.Cell} (hm : Memory.wfFrom lo m = true) (h : a < lo) :
    Memory.read m a = unlistedCell := by
  induction m generalizing lo with
  | nil => rfl
  | cons c r ih =>
    rw [Memory.wfFrom_cons] at hm
    rw [Memory.read_cons, if_neg (by omega), ih hm.2.2.2 (by omega)]

theorem Memory.read_write_from {lo a b : Nat} {v : Byte} {m : List Host.Cell} (hm : Memory.wfFrom lo m = true) :
    Memory.read (Memory.write m a v) b = if b = a then v else Memory.read m b := by
  induction m generalizing lo with
  | nil =>
    by_cases hv : v = unlistedCell <;> by_cases hb : b = a <;>
      simp [Memory.write, hv, hb, Memory.read_cons, eq_comm (a := a)]
  | cons c r ih =>
    rw [Memory.wfFrom_cons] at hm
    obtain ⟨_, _, _, hr⟩ := hm
    have below : ∀ x, x ≤ c.1 → Memory.read r x = unlistedCell := fun x hx => Memory.read_below hr (by omega)
    simp only [Memory.write]
    by_cases hb : b = a
    · subst hb
      rw [if_pos rfl]
      by_cases h1 : b < c.1
      · by_cases hv : v = unlistedCell
        · rw [if_pos h1, if_pos hv, Memory.read_cons, if_neg (by omega), below b (by omega), hv]
        · rw [if_pos h1, if_neg hv, Memory.read_cons, if_pos rfl]
      · by_cases h3 : b = c.1
        · by_cases hv : v = unlistedCell
          · rw [if_neg h1, if_pos h3, if_pos hv, below b (by omega), hv]
          · rw [if_neg h1, if_pos h3, if_neg hv, Memory.read_cons, if_pos rfl]
        · rw [if_neg h1, if_neg h3, Memory.read_cons, if_neg (by omega), ih hr, if_pos rfl]
    · have hab : ¬ a = b := fun h => hb h.symm
      rw [if_neg hb]
      by_cases h1 : a < c.1
      · by_cases hv : v = unlistedCell
        · rw [if_pos h1, if_pos hv]
        · rw [if_pos h1, if_neg hv, Memory.read_cons, if_neg hab]
      · by_cases h3 : a = c.1
        · by_cases hv : v = unlistedCell
          · rw [if_neg h1, if_pos h3, if_pos hv, Memory.read_cons, if_neg (by omega)]
          · rw [if_neg h1, if_pos h3, if_neg hv, Memory.read_cons, if_neg hab, Memory.read_cons, if_neg (by omega)]
        · rw [if_neg h1, if_neg h3, Memory.read_cons, Memory.read_cons, ih hr, if_neg hb]

/-- A read after a write: the value written at its place, every other cell as before. -/
theorem Memory.read_write {a b : Nat} {v : Byte} {m : List Host.Cell} (hm : Memory.wf m = true) :
    Memory.read (Memory.write m a v) b = if b = a then v else Memory.read m b :=
  Memory.read_write_from hm

theorem Memory.wfFrom_write {lo a : Nat} {v : Byte} {m : List Host.Cell} (hm : Memory.wfFrom lo m = true)
    (hlo : lo ≤ a) (ha : a < npix) : Memory.wfFrom lo (Memory.write m a v) = true := by
  induction m generalizing lo with
  | nil =>
    unfold Memory.write
    split_ifs with h
    · rfl
    · rw [Memory.wfFrom_cons]
      exact ⟨hlo, ha, h, rfl⟩
  | cons c r ih =>
    rw [Memory.wfFrom_cons] at hm
    obtain ⟨h0, h1, h2, hr⟩ := hm
    unfold Memory.write
    split_ifs with g1 g2 g3 g4
    · rw [Memory.wfFrom_cons]; exact ⟨h0, h1, h2, hr⟩
    · rw [Memory.wfFrom_cons, Memory.wfFrom_cons]
      exact ⟨hlo, ha, g2, by simpa using g1, h1, h2, hr⟩
    · exact Memory.wfFrom_mono (by omega) hr
    · rw [Memory.wfFrom_cons]
      exact ⟨hlo, ha, g4, by subst g3; exact hr⟩
    · rw [Memory.wfFrom_cons]
      exact ⟨h0, h1, h2, ih hr (by omega)⟩

/-- A write of a cell keeps the canonical form. -/
theorem Memory.wf_write {a : Nat} {v : Byte} {m : List Host.Cell} (hm : Memory.wf m = true) (ha : a < npix) :
    Memory.wf (Memory.write m a v) = true :=
  Memory.wfFrom_write hm (Nat.zero_le a) ha

/-- An n-byte write inside the framebuffer keeps the canonical form. -/
theorem Memory.wf_writeBytes {m : List Host.Cell} {a : Nat} {v : Word} {n : Nat} (hm : Memory.wf m = true)
    (h : a + n ≤ npix) : Memory.wf (Memory.writeBytes m a v n) = true := by
  induction n with
  | zero => exact hm
  | succ n ih => exact Memory.wf_write (ih (by omega)) (by omega)

theorem Memory.wf_foldl_write {cells m : List Host.Cell} (hm : Memory.wf m = true) :
    Memory.wf (cells.foldl (fun m c => if c.1 < npix then Memory.write m c.1 c.2 else m) m) = true := by
  induction cells generalizing m with
  | nil => exact hm
  | cons c r ih =>
    refine ih ?_
    by_cases h : c.1 < npix
    · simpa [h] using Memory.wf_write hm h
    · simpa [h] using hm

/-- Whatever contents a block reset leaves, they are in the canonical form. -/
theorem Memory.wf_ofCells (cells : List Host.Cell) : Memory.wf (Memory.ofCells cells) = true :=
  Memory.wf_foldl_write rfl

end Sys2Proof.Machine
end

