-- ==== Sys2Proof/Laws/Observe.lean ====
section
/-! SUPPORT. What the fields of STATUS say, and what the end of a run (70_reset_and_hazards.md R263) says of the state in
which it is read. -/

namespace Sys2Proof.Machine

/-- STATUS bit by bit from below: STATE, ACTIVE, and the rest (R26). -/
theorem State.statusWord_getLsbD (s : State) (b : Level) (k : Nat) :
    (s.statusWord b).getLsbD k =
      if k < 3 then s.reportedState.getLsbD k
      else if k - 3 < 1 then s.active && decide (k - 3 = 0)
      else (0#11 ++ bit b ++ bit s.busOpen ++ bit s.dc ++ bit s.rst ++ bit s.pwr ++ bit s.rej ++ 0#5 ++ s.detail
        ++ 0#1 ++ s.err.code).getLsbD (k - 3 - 1) := by
  refine (BitVec.getLsbD_append ..).trans ?_
  split
  · rfl
  · refine (BitVec.getLsbD_append ..).trans ?_
    split
    · cases s.active <;> simp [bit]
    · rfl

theorem State.statusWord_state (s : State) (b : Level) : (s.statusWord b).extractLsb' 0 3 = s.reportedState := by
  refine BitVec.eq_of_getLsbD_eq fun k hk => ?_
  simp [State.statusWord_getLsbD, hk]

theorem State.statusWord_active (s : State) (b : Level) : (s.statusWord b).getLsbD 3 = s.active := by
  rw [State.statusWord_getLsbD]
  simp

/-- STATUS reads as at the end of a run exactly if no operation is active and the session is asleep (R33). -/
theorem State.readsAsleep_statusWord (s : State) (b : Level) :
    readsAsleep (s.statusWord b) = true ↔ s.active = false ∧ s.fsm = .asleep := by
  simp only [readsAsleep, State.statusWord_state, State.statusWord_active, State.reportedState]
  cases s.active <;> cases s.fsm <;> decide

/-- A read of STATUS returns STATUS, with the level of BUSY_IN that the panel answers. -/
theorem State.statusRead_eq {s : State} {v : Word} (h : s.statusRead = some v) :
    s.mover = .host ∧ v = s.statusWord s.env.drawBusyIn.1 := by
  unfold State.statusRead at h
  split at h
  · split at h
    · exact ⟨‹_›, (Option.some.inj h).symm⟩
    · cases h
  · exact ⟨‹_›, (Option.some.inj h).symm⟩
  all_goals cases h

/-- The lifecycles of a log that gains an event. -/
theorem lifecycles_append (log : List Event) (e : Event) : lifecycles (log ++ [e]) = (lifecycles log).read e := by
  simp [lifecycles]

/-- A run ends at a step of the host, with no operation active and the session asleep, and its result is the panel trace
of the log's last lifecycle (R263). -/
theorem State.runEnds_spec {s : State} {events : List Event} (h : s.runEnds = some events) :
    s.mover = .host ∧ s.active = false ∧ s.fsm = .asleep ∧ runTrace s.log = some events := by
  obtain ⟨v, hv, h⟩ := Option.bind_eq_some_iff.mp h
  obtain ⟨hm, rfl⟩ := State.statusRead_eq hv
  split at h
  · obtain ⟨ha, hf⟩ := (s.readsAsleep_statusWord _).mp ‹_›
    exact ⟨hm, ha, hf, h⟩
  · cases h

end Sys2Proof.Machine
end

