-- ==== Sys2Proof/Laws/State.lean ====
section
/-! SUPPORT. What each named update does to each field of the state: one lemma per field and update. -/

namespace Sys2Proof.Machine

/-! `State.emit` -/

@[simp] theorem State.emit_cfg (s : State) (e : Event) :
    (s.emit e).cfg = s.cfg := rfl
@[simp] theorem State.emit_argVal (s : State) (e : Event) :
    (s.emit e).argVal = s.argVal := rfl
@[simp] theorem State.emit_canvasW (s : State) (e : Event) :
    (s.emit e).canvasW = s.canvasW := rfl
@[simp] theorem State.emit_canvasH (s : State) (e : Event) :
    (s.emit e).canvasH = s.canvasH := rfl
@[simp] theorem State.emit_err (s : State) (e : Event) :
    (s.emit e).err = s.err := rfl
@[simp] theorem State.emit_detail (s : State) (e : Event) :
    (s.emit e).detail = s.detail := rfl
@[simp] theorem State.emit_rej (s : State) (e : Event) :
    (s.emit e).rej = s.rej := rfl
@[simp] theorem State.emit_errinfo (s : State) (e : Event) :
    (s.emit e).errinfo = s.errinfo := rfl
@[simp] theorem State.emit_fsm (s : State) (e : Event) :
    (s.emit e).fsm = s.fsm := rfl
@[simp] theorem State.emit_active (s : State) (e : Event) :
    (s.emit e).active = s.active := rfl
@[simp] theorem State.emit_pwr (s : State) (e : Event) :
    (s.emit e).pwr = s.pwr := rfl
@[simp] theorem State.emit_rst (s : State) (e : Event) :
    (s.emit e).rst = s.rst := rfl
@[simp] theorem State.emit_dc (s : State) (e : Event) :
    (s.emit e).dc = s.dc := rfl
@[simp] theorem State.emit_busOpen (s : State) (e : Event) :
    (s.emit e).busOpen = s.busOpen := rfl
@[simp] theorem State.emit_op (s : State) (e : Event) :
    (s.emit e).op = s.op := rfl
@[simp] theorem State.emit_pc (s : State) (e : Event) :
    (s.emit e).pc = s.pc := rfl
@[simp] theorem State.emit_i (s : State) (e : Event) :
    (s.emit e).i = s.i := rfl
@[simp] theorem State.emit_j (s : State) (e : Event) :
    (s.emit e).j = s.j := rfl
@[simp] theorem State.emit_k (s : State) (e : Event) :
    (s.emit e).k = s.k := rfl
@[simp] theorem State.emit_p (s : State) (e : Event) :
    (s.emit e).p = s.p := rfl
@[simp] theorem State.emit_n (s : State) (e : Event) :
    (s.emit e).n = s.n := rfl
@[simp] theorem State.emit_errPending (s : State) (e : Event) :
    (s.emit e).errPending = s.errPending := rfl
@[simp] theorem State.emit_opnd (s : State) (e : Event) :
    (s.emit e).opnd = s.opnd := rfl
@[simp] theorem State.emit_timer (s : State) (e : Event) :
    (s.emit e).timer = s.timer := rfl
@[simp] theorem State.emit_fb (s : State) (e : Event) :
    (s.emit e).fb = s.fb := rfl
@[simp] theorem State.emit_log (s : State) (e : Event) :
    (s.emit e).log = s.log ++ [e] := rfl
@[simp] theorem State.emit_env (s : State) (e : Event) :
    (s.emit e).env = s.env := rfl
@[simp] theorem State.emit_hostProg (s : State) (e : Event) :
    (s.emit e).hostProg = s.hostProg := rfl
@[simp] theorem State.emit_resp (s : State) (e : Event) :
    (s.emit e).resp = s.resp := rfl
@[simp] theorem State.emit_sched (s : State) (e : Event) :
    (s.emit e).sched = s.sched := rfl
@[simp] theorem State.emit_turns (s : State) (e : Event) :
    (s.emit e).turns = s.turns := rfl
@[simp] theorem State.emit_hostLeft (s : State) (e : Event) :
    (s.emit e).hostLeft = s.hostLeft := rfl

/-! `State.goto` -/

@[simp] theorem State.goto_cfg (s : State) (q : Pc) :
    (s.goto q).cfg = s.cfg := rfl
@[simp] theorem State.goto_argVal (s : State) (q : Pc) :
    (s.goto q).argVal = s.argVal := rfl
@[simp] theorem State.goto_canvasW (s : State) (q : Pc) :
    (s.goto q).canvasW = s.canvasW := rfl
@[simp] theorem State.goto_canvasH (s : State) (q : Pc) :
    (s.goto q).canvasH = s.canvasH := rfl
@[simp] theorem State.goto_err (s : State) (q : Pc) :
    (s.goto q).err = s.err := rfl
@[simp] theorem State.goto_detail (s : State) (q : Pc) :
    (s.goto q).detail = s.detail := rfl
@[simp] theorem State.goto_rej (s : State) (q : Pc) :
    (s.goto q).rej = s.rej := rfl
@[simp] theorem State.goto_errinfo (s : State) (q : Pc) :
    (s.goto q).errinfo = s.errinfo := rfl
@[simp] theorem State.goto_fsm (s : State) (q : Pc) :
    (s.goto q).fsm = s.fsm := rfl
@[simp] theorem State.goto_active (s : State) (q : Pc) :
    (s.goto q).active = s.active := rfl
@[simp] theorem State.goto_pwr (s : State) (q : Pc) :
    (s.goto q).pwr = s.pwr := rfl
@[simp] theorem State.goto_rst (s : State) (q : Pc) :
    (s.goto q).rst = s.rst := rfl
@[simp] theorem State.goto_dc (s : State) (q : Pc) :
    (s.goto q).dc = s.dc := rfl
@[simp] theorem State.goto_busOpen (s : State) (q : Pc) :
    (s.goto q).busOpen = s.busOpen := rfl
@[simp] theorem State.goto_op (s : State) (q : Pc) :
    (s.goto q).op = s.op := rfl
@[simp] theorem State.goto_pc (s : State) (q : Pc) :
    (s.goto q).pc = q := rfl
@[simp] theorem State.goto_i (s : State) (q : Pc) :
    (s.goto q).i = s.i := rfl
@[simp] theorem State.goto_j (s : State) (q : Pc) :
    (s.goto q).j = s.j := rfl
@[simp] theorem State.goto_k (s : State) (q : Pc) :
    (s.goto q).k = s.k := rfl
@[simp] theorem State.goto_p (s : State) (q : Pc) :
    (s.goto q).p = s.p := rfl
@[simp] theorem State.goto_n (s : State) (q : Pc) :
    (s.goto q).n = s.n := rfl
@[simp] theorem State.goto_errPending (s : State) (q : Pc) :
    (s.goto q).errPending = s.errPending := rfl
@[simp] theorem State.goto_opnd (s : State) (q : Pc) :
    (s.goto q).opnd = s.opnd := rfl
@[simp] theorem State.goto_timer (s : State) (q : Pc) :
    (s.goto q).timer = s.timer := rfl
@[simp] theorem State.goto_fb (s : State) (q : Pc) :
    (s.goto q).fb = s.fb := rfl
@[simp] theorem State.goto_log (s : State) (q : Pc) :
    (s.goto q).log = s.log := rfl
@[simp] theorem State.goto_env (s : State) (q : Pc) :
    (s.goto q).env = s.env := rfl
@[simp] theorem State.goto_hostProg (s : State) (q : Pc) :
    (s.goto q).hostProg = s.hostProg := rfl
@[simp] theorem State.goto_resp (s : State) (q : Pc) :
    (s.goto q).resp = s.resp := rfl
@[simp] theorem State.goto_sched (s : State) (q : Pc) :
    (s.goto q).sched = s.sched := rfl
@[simp] theorem State.goto_turns (s : State) (q : Pc) :
    (s.goto q).turns = s.turns := rfl
@[simp] theorem State.goto_hostLeft (s : State) (q : Pc) :
    (s.goto q).hostLeft = s.hostLeft := rfl

/-! `State.setLine` -/

@[simp] theorem State.setLine_cfg (s : State) (l : Line) (b : Level) :
    (s.setLine l b).cfg = s.cfg := by cases l <;> rfl
@[simp] theorem State.setLine_argVal (s : State) (l : Line) (b : Level) :
    (s.setLine l b).argVal = s.argVal := by cases l <;> rfl
@[simp] theorem State.setLine_canvasW (s : State) (l : Line) (b : Level) :
    (s.setLine l b).canvasW = s.canvasW := by cases l <;> rfl
@[simp] theorem State.setLine_canvasH (s : State) (l : Line) (b : Level) :
    (s.setLine l b).canvasH = s.canvasH := by cases l <;> rfl
@[simp] theorem State.setLine_err (s : State) (l : Line) (b : Level) :
    (s.setLine l b).err = s.err := by cases l <;> rfl
@[simp] theorem State.setLine_detail (s : State) (l : Line) (b : Level) :
    (s.setLine l b).detail = s.detail := by cases l <;> rfl
@[simp] theorem State.setLine_rej (s : State) (l : Line) (b : Level) :
    (s.setLine l b).rej = s.rej := by cases l <;> rfl
@[simp] theorem State.setLine_errinfo (s : State) (l : Line) (b : Level) :
    (s.setLine l b).errinfo = s.errinfo := by cases l <;> rfl
@[simp] theorem State.setLine_fsm (s : State) (l : Line) (b : Level) :
    (s.setLine l b).fsm = s.fsm := by cases l <;> rfl
@[simp] theorem State.setLine_active (s : State) (l : Line) (b : Level) :
    (s.setLine l b).active = s.active := by cases l <;> rfl
@[simp] theorem State.setLine_pwr (s : State) (l : Line) (b : Level) :
    (s.setLine l b).pwr = if l = .pwr then b else s.pwr := by cases l <;> rfl
@[simp] theorem State.setLine_rst (s : State) (l : Line) (b : Level) :
    (s.setLine l b).rst = if l = .rst then b else s.rst := by cases l <;> rfl
@[simp] theorem State.setLine_dc (s : State) (l : Line) (b : Level) :
    (s.setLine l b).dc = if l = .dc then b else s.dc := by cases l <;> rfl
@[simp] theorem State.setLine_busOpen (s : State) (l : Line) (b : Level) :
    (s.setLine l b).busOpen = s.busOpen := by cases l <;> rfl
@[simp] theorem State.setLine_op (s : State) (l : Line) (b : Level) :
    (s.setLine l b).op = s.op := by cases l <;> rfl
@[simp] theorem State.setLine_pc (s : State) (l : Line) (b : Level) :
    (s.setLine l b).pc = s.pc := by cases l <;> rfl
@[simp] theorem State.setLine_i (s : State) (l : Line) (b : Level) :
    (s.setLine l b).i = s.i := by cases l <;> rfl
@[simp] theorem State.setLine_j (s : State) (l : Line) (b : Level) :
    (s.setLine l b).j = s.j := by cases l <;> rfl
@[simp] theorem State.setLine_k (s : State) (l : Line) (b : Level) :
    (s.setLine l b).k = s.k := by cases l <;> rfl
@[simp] theorem State.setLine_p (s : State) (l : Line) (b : Level) :
    (s.setLine l b).p = s.p := by cases l <;> rfl
@[simp] theorem State.setLine_n (s : State) (l : Line) (b : Level) :
    (s.setLine l b).n = s.n := by cases l <;> rfl
@[simp] theorem State.setLine_errPending (s : State) (l : Line) (b : Level) :
    (s.setLine l b).errPending = s.errPending := by cases l <;> rfl
@[simp] theorem State.setLine_opnd (s : State) (l : Line) (b : Level) :
    (s.setLine l b).opnd = s.opnd := by cases l <;> rfl
@[simp] theorem State.setLine_timer (s : State) (l : Line) (b : Level) :
    (s.setLine l b).timer = s.timer := by cases l <;> rfl
@[simp] theorem State.setLine_fb (s : State) (l : Line) (b : Level) :
    (s.setLine l b).fb = s.fb := by cases l <;> rfl
@[simp] theorem State.setLine_log (s : State) (l : Line) (b : Level) :
    (s.setLine l b).log = s.log ++ [.line l b] := by cases l <;> rfl
@[simp] theorem State.setLine_env (s : State) (l : Line) (b : Level) :
    (s.setLine l b).env = s.env := by cases l <;> rfl
@[simp] theorem State.setLine_hostProg (s : State) (l : Line) (b : Level) :
    (s.setLine l b).hostProg = s.hostProg := by cases l <;> rfl
@[simp] theorem State.setLine_resp (s : State) (l : Line) (b : Level) :
    (s.setLine l b).resp = s.resp := by cases l <;> rfl
@[simp] theorem State.setLine_sched (s : State) (l : Line) (b : Level) :
    (s.setLine l b).sched = s.sched := by cases l <;> rfl
@[simp] theorem State.setLine_turns (s : State) (l : Line) (b : Level) :
    (s.setLine l b).turns = s.turns := by cases l <;> rfl
@[simp] theorem State.setLine_hostLeft (s : State) (l : Line) (b : Level) :
    (s.setLine l b).hostLeft = s.hostLeft := by cases l <;> rfl

/-! `State.delay` -/

@[simp] theorem State.delay_cfg (s : State) (t : Nat) :
    (s.delay t).cfg = s.cfg := rfl
@[simp] theorem State.delay_argVal (s : State) (t : Nat) :
    (s.delay t).argVal = s.argVal := rfl
@[simp] theorem State.delay_canvasW (s : State) (t : Nat) :
    (s.delay t).canvasW = s.canvasW := rfl
@[simp] theorem State.delay_canvasH (s : State) (t : Nat) :
    (s.delay t).canvasH = s.canvasH := rfl
@[simp] theorem State.delay_err (s : State) (t : Nat) :
    (s.delay t).err = s.err := rfl
@[simp] theorem State.delay_detail (s : State) (t : Nat) :
    (s.delay t).detail = s.detail := rfl
@[simp] theorem State.delay_rej (s : State) (t : Nat) :
    (s.delay t).rej = s.rej := rfl
@[simp] theorem State.delay_errinfo (s : State) (t : Nat) :
    (s.delay t).errinfo = s.errinfo := rfl
@[simp] theorem State.delay_fsm (s : State) (t : Nat) :
    (s.delay t).fsm = s.fsm := rfl
@[simp] theorem State.delay_active (s : State) (t : Nat) :
    (s.delay t).active = s.active := rfl
@[simp] theorem State.delay_pwr (s : State) (t : Nat) :
    (s.delay t).pwr = s.pwr := rfl
@[simp] theorem State.delay_rst (s : State) (t : Nat) :
    (s.delay t).rst = s.rst := rfl
@[simp] theorem State.delay_dc (s : State) (t : Nat) :
    (s.delay t).dc = s.dc := rfl
@[simp] theorem State.delay_busOpen (s : State) (t : Nat) :
    (s.delay t).busOpen = s.busOpen := rfl
@[simp] theorem State.delay_op (s : State) (t : Nat) :
    (s.delay t).op = s.op := rfl
@[simp] theorem State.delay_pc (s : State) (t : Nat) :
    (s.delay t).pc = s.pc := rfl
@[simp] theorem State.delay_i (s : State) (t : Nat) :
    (s.delay t).i = s.i := rfl
@[simp] theorem State.delay_j (s : State) (t : Nat) :
    (s.delay t).j = s.j := rfl
@[simp] theorem State.delay_k (s : State) (t : Nat) :
    (s.delay t).k = s.k := rfl
@[simp] theorem State.delay_p (s : State) (t : Nat) :
    (s.delay t).p = s.p := rfl
@[simp] theorem State.delay_n (s : State) (t : Nat) :
    (s.delay t).n = s.n := rfl
@[simp] theorem State.delay_errPending (s : State) (t : Nat) :
    (s.delay t).errPending = s.errPending := rfl
@[simp] theorem State.delay_opnd (s : State) (t : Nat) :
    (s.delay t).opnd = s.opnd := rfl
@[simp] theorem State.delay_timer (s : State) (t : Nat) :
    (s.delay t).timer = delayTicks s.cfg t := rfl
@[simp] theorem State.delay_fb (s : State) (t : Nat) :
    (s.delay t).fb = s.fb := rfl
@[simp] theorem State.delay_log (s : State) (t : Nat) :
    (s.delay t).log = s.log ++ [.delay t] := rfl
@[simp] theorem State.delay_env (s : State) (t : Nat) :
    (s.delay t).env = s.env := rfl
@[simp] theorem State.delay_hostProg (s : State) (t : Nat) :
    (s.delay t).hostProg = s.hostProg := rfl
@[simp] theorem State.delay_resp (s : State) (t : Nat) :
    (s.delay t).resp = s.resp := rfl
@[simp] theorem State.delay_sched (s : State) (t : Nat) :
    (s.delay t).sched = s.sched := rfl
@[simp] theorem State.delay_turns (s : State) (t : Nat) :
    (s.delay t).turns = s.turns := rfl
@[simp] theorem State.delay_hostLeft (s : State) (t : Nat) :
    (s.delay t).hostLeft = s.hostLeft := rfl

/-! `State.busClose` -/

@[simp] theorem State.busClose_cfg (s : State) :
    (s.busClose).cfg = s.cfg := rfl
@[simp] theorem State.busClose_argVal (s : State) :
    (s.busClose).argVal = s.argVal := rfl
@[simp] theorem State.busClose_canvasW (s : State) :
    (s.busClose).canvasW = s.canvasW := rfl
@[simp] theorem State.busClose_canvasH (s : State) :
    (s.busClose).canvasH = s.canvasH := rfl
@[simp] theorem State.busClose_err (s : State) :
    (s.busClose).err = s.err := rfl
@[simp] theorem State.busClose_detail (s : State) :
    (s.busClose).detail = s.detail := rfl
@[simp] theorem State.busClose_rej (s : State) :
    (s.busClose).rej = s.rej := rfl
@[simp] theorem State.busClose_errinfo (s : State) :
    (s.busClose).errinfo = s.errinfo := rfl
@[simp] theorem State.busClose_fsm (s : State) :
    (s.busClose).fsm = s.fsm := rfl
@[simp] theorem State.busClose_active (s : State) :
    (s.busClose).active = s.active := rfl
@[simp] theorem State.busClose_pwr (s : State) :
    (s.busClose).pwr = s.pwr := rfl
@[simp] theorem State.busClose_rst (s : State) :
    (s.busClose).rst = s.rst := rfl
@[simp] theorem State.busClose_dc (s : State) :
    (s.busClose).dc = s.dc := rfl
@[simp] theorem State.busClose_busOpen (s : State) :
    (s.busClose).busOpen = false := rfl
@[simp] theorem State.busClose_op (s : State) :
    (s.busClose).op = s.op := rfl
@[simp] theorem State.busClose_pc (s : State) :
    (s.busClose).pc = s.pc := rfl
@[simp] theorem State.busClose_i (s : State) :
    (s.busClose).i = s.i := rfl
@[simp] theorem State.busClose_j (s : State) :
    (s.busClose).j = s.j := rfl
@[simp] theorem State.busClose_k (s : State) :
    (s.busClose).k = s.k := rfl
@[simp] theorem State.busClose_p (s : State) :
    (s.busClose).p = s.p := rfl
@[simp] theorem State.busClose_n (s : State) :
    (s.busClose).n = s.n := rfl
@[simp] theorem State.busClose_errPending (s : State) :
    (s.busClose).errPending = s.errPending := rfl
@[simp] theorem State.busClose_opnd (s : State) :
    (s.busClose).opnd = s.opnd := rfl
@[simp] theorem State.busClose_timer (s : State) :
    (s.busClose).timer = s.timer := rfl
@[simp] theorem State.busClose_fb (s : State) :
    (s.busClose).fb = s.fb := rfl
@[simp] theorem State.busClose_log (s : State) :
    (s.busClose).log = s.log ++ [.close] := rfl
@[simp] theorem State.busClose_env (s : State) :
    (s.busClose).env = s.env := rfl
@[simp] theorem State.busClose_hostProg (s : State) :
    (s.busClose).hostProg = s.hostProg := rfl
@[simp] theorem State.busClose_resp (s : State) :
    (s.busClose).resp = s.resp := rfl
@[simp] theorem State.busClose_sched (s : State) :
    (s.busClose).sched = s.sched := rfl
@[simp] theorem State.busClose_turns (s : State) :
    (s.busClose).turns = s.turns := rfl
@[simp] theorem State.busClose_hostLeft (s : State) :
    (s.busClose).hostLeft = s.hostLeft := rfl

/-! `State.complete` -/

@[simp] theorem State.complete_cfg (s : State) :
    (s.complete).cfg = s.cfg := rfl
@[simp] theorem State.complete_argVal (s : State) :
    (s.complete).argVal = s.argVal := rfl
@[simp] theorem State.complete_canvasW (s : State) :
    (s.complete).canvasW = s.canvasW := rfl
@[simp] theorem State.complete_canvasH (s : State) :
    (s.complete).canvasH = s.canvasH := rfl
@[simp] theorem State.complete_err (s : State) :
    (s.complete).err = s.err := rfl
@[simp] theorem State.complete_detail (s : State) :
    (s.complete).detail = s.detail := rfl
@[simp] theorem State.complete_rej (s : State) :
    (s.complete).rej = s.rej := rfl
@[simp] theorem State.complete_errinfo (s : State) :
    (s.complete).errinfo = s.errinfo := rfl
@[simp] theorem State.complete_fsm (s : State) :
    (s.complete).fsm = s.fsm := rfl
@[simp] theorem State.complete_active (s : State) :
    (s.complete).active = false := rfl
@[simp] theorem State.complete_pwr (s : State) :
    (s.complete).pwr = s.pwr := rfl
@[simp] theorem State.complete_rst (s : State) :
    (s.complete).rst = s.rst := rfl
@[simp] theorem State.complete_dc (s : State) :
    (s.complete).dc = s.dc := rfl
@[simp] theorem State.complete_busOpen (s : State) :
    (s.complete).busOpen = s.busOpen := rfl
@[simp] theorem State.complete_op (s : State) :
    (s.complete).op = s.op := rfl
@[simp] theorem State.complete_pc (s : State) :
    (s.complete).pc = s.pc := rfl
@[simp] theorem State.complete_i (s : State) :
    (s.complete).i = s.i := rfl
@[simp] theorem State.complete_j (s : State) :
    (s.complete).j = s.j := rfl
@[simp] theorem State.complete_k (s : State) :
    (s.complete).k = s.k := rfl
@[simp] theorem State.complete_p (s : State) :
    (s.complete).p = s.p := rfl
@[simp] theorem State.complete_n (s : State) :
    (s.complete).n = s.n := rfl
@[simp] theorem State.complete_errPending (s : State) :
    (s.complete).errPending = s.errPending := rfl
@[simp] theorem State.complete_opnd (s : State) :
    (s.complete).opnd = s.opnd := rfl
@[simp] theorem State.complete_timer (s : State) :
    (s.complete).timer = s.timer := rfl
@[simp] theorem State.complete_fb (s : State) :
    (s.complete).fb = s.fb := rfl
@[simp] theorem State.complete_log (s : State) :
    (s.complete).log = s.log ++ [.done s.err s.detail] := rfl
@[simp] theorem State.complete_env (s : State) :
    (s.complete).env = s.env := rfl
@[simp] theorem State.complete_hostProg (s : State) :
    (s.complete).hostProg = s.hostProg := rfl
@[simp] theorem State.complete_resp (s : State) :
    (s.complete).resp = s.resp := rfl
@[simp] theorem State.complete_sched (s : State) :
    (s.complete).sched = s.sched := rfl
@[simp] theorem State.complete_turns (s : State) :
    (s.complete).turns = s.turns := rfl
@[simp] theorem State.complete_hostLeft (s : State) :
    (s.complete).hostLeft = s.hostLeft := rfl

/-! `State.raise` -/

@[simp] theorem State.raise_cfg (s : State) (e : Err) (d : BitVec 2) :
    (s.raise e d).cfg = s.cfg := rfl
@[simp] theorem State.raise_argVal (s : State) (e : Err) (d : BitVec 2) :
    (s.raise e d).argVal = s.argVal := rfl
@[simp] theorem State.raise_canvasW (s : State) (e : Err) (d : BitVec 2) :
    (s.raise e d).canvasW = s.canvasW := rfl
@[simp] theorem State.raise_canvasH (s : State) (e : Err) (d : BitVec 2) :
    (s.raise e d).canvasH = s.canvasH := rfl
@[simp] theorem State.raise_err (s : State) (e : Err) (d : BitVec 2) :
    (s.raise e d).err = e := rfl
@[simp] theorem State.raise_detail (s : State) (e : Err) (d : BitVec 2) :
    (s.raise e d).detail = d := rfl
@[simp] theorem State.raise_rej (s : State) (e : Err) (d : BitVec 2) :
    (s.raise e d).rej = s.rej := rfl
@[simp] theorem State.raise_errinfo (s : State) (e : Err) (d : BitVec 2) :
    (s.raise e d).errinfo = s.errinfo := rfl
@[simp] theorem State.raise_fsm (s : State) (e : Err) (d : BitVec 2) :
    (s.raise e d).fsm = s.fsm := rfl
@[simp] theorem State.raise_active (s : State) (e : Err) (d : BitVec 2) :
    (s.raise e d).active = false := rfl
@[simp] theorem State.raise_pwr (s : State) (e : Err) (d : BitVec 2) :
    (s.raise e d).pwr = s.pwr := rfl
@[simp] theorem State.raise_rst (s : State) (e : Err) (d : BitVec 2) :
    (s.raise e d).rst = s.rst := rfl
@[simp] theorem State.raise_dc (s : State) (e : Err) (d : BitVec 2) :
    (s.raise e d).dc = s.dc := rfl
@[simp] theorem State.raise_busOpen (s : State) (e : Err) (d : BitVec 2) :
    (s.raise e d).busOpen = s.busOpen := rfl
@[simp] theorem State.raise_op (s : State) (e : Err) (d : BitVec 2) :
    (s.raise e d).op = s.op := rfl
@[simp] theorem State.raise_pc (s : State) (e : Err) (d : BitVec 2) :
    (s.raise e d).pc = s.pc := rfl
@[simp] theorem State.raise_i (s : State) (e : Err) (d : BitVec 2) :
    (s.raise e d).i = s.i := rfl
@[simp] theorem State.raise_j (s : State) (e : Err) (d : BitVec 2) :
    (s.raise e d).j = s.j := rfl
@[simp] theorem State.raise_k (s : State) (e : Err) (d : BitVec 2) :
    (s.raise e d).k = s.k := rfl
@[simp] theorem State.raise_p (s : State) (e : Err) (d : BitVec 2) :
    (s.raise e d).p = s.p := rfl
@[simp] theorem State.raise_n (s : State) (e : Err) (d : BitVec 2) :
    (s.raise e d).n = s.n := rfl
@[simp] theorem State.raise_errPending (s : State) (e : Err) (d : BitVec 2) :
    (s.raise e d).errPending = s.errPending := rfl
@[simp] theorem State.raise_opnd (s : State) (e : Err) (d : BitVec 2) :
    (s.raise e d).opnd = s.opnd := rfl
@[simp] theorem State.raise_timer (s : State) (e : Err) (d : BitVec 2) :
    (s.raise e d).timer = s.timer := rfl
@[simp] theorem State.raise_fb (s : State) (e : Err) (d : BitVec 2) :
    (s.raise e d).fb = s.fb := rfl
@[simp] theorem State.raise_log (s : State) (e : Err) (d : BitVec 2) :
    (s.raise e d).log = s.log ++ [.done e d] := rfl
@[simp] theorem State.raise_env (s : State) (e : Err) (d : BitVec 2) :
    (s.raise e d).env = s.env := rfl
@[simp] theorem State.raise_hostProg (s : State) (e : Err) (d : BitVec 2) :
    (s.raise e d).hostProg = s.hostProg := rfl
@[simp] theorem State.raise_resp (s : State) (e : Err) (d : BitVec 2) :
    (s.raise e d).resp = s.resp := rfl
@[simp] theorem State.raise_sched (s : State) (e : Err) (d : BitVec 2) :
    (s.raise e d).sched = s.sched := rfl
@[simp] theorem State.raise_turns (s : State) (e : Err) (d : BitVec 2) :
    (s.raise e d).turns = s.turns := rfl
@[simp] theorem State.raise_hostLeft (s : State) (e : Err) (d : BitVec 2) :
    (s.raise e d).hostLeft = s.hostLeft := rfl

/-! `State.issue` -/

@[simp] theorem State.issue_cfg (s : State) (v : Word) :
    (s.issue v).cfg = s.cfg := rfl
@[simp] theorem State.issue_argVal (s : State) (v : Word) :
    (s.issue v).argVal = s.argVal := rfl
@[simp] theorem State.issue_canvasW (s : State) (v : Word) :
    (s.issue v).canvasW = s.canvasW := rfl
@[simp] theorem State.issue_canvasH (s : State) (v : Word) :
    (s.issue v).canvasH = s.canvasH := rfl
@[simp] theorem State.issue_err (s : State) (v : Word) :
    (s.issue v).err = .noError := rfl
@[simp] theorem State.issue_detail (s : State) (v : Word) :
    (s.issue v).detail = 0#2 := rfl
@[simp] theorem State.issue_rej (s : State) (v : Word) :
    (s.issue v).rej = s.rej := rfl
@[simp] theorem State.issue_errinfo (s : State) (v : Word) :
    (s.issue v).errinfo = 0#19 := rfl
@[simp] theorem State.issue_fsm (s : State) (v : Word) :
    (s.issue v).fsm = s.fsm := rfl
@[simp] theorem State.issue_active (s : State) (v : Word) :
    (s.issue v).active = true := rfl
@[simp] theorem State.issue_pwr (s : State) (v : Word) :
    (s.issue v).pwr = s.pwr := rfl
@[simp] theorem State.issue_rst (s : State) (v : Word) :
    (s.issue v).rst = s.rst := rfl
@[simp] theorem State.issue_dc (s : State) (v : Word) :
    (s.issue v).dc = s.dc := rfl
@[simp] theorem State.issue_busOpen (s : State) (v : Word) :
    (s.issue v).busOpen = s.busOpen := rfl
@[simp] theorem State.issue_op (s : State) (v : Word) :
    (s.issue v).op = opcOf v := rfl
@[simp] theorem State.issue_pc (s : State) (v : Word) :
    (s.issue v).pc = .rule 0 := rfl
@[simp] theorem State.issue_i (s : State) (v : Word) :
    (s.issue v).i = s.i := rfl
@[simp] theorem State.issue_j (s : State) (v : Word) :
    (s.issue v).j = s.j := rfl
@[simp] theorem State.issue_k (s : State) (v : Word) :
    (s.issue v).k = s.k := rfl
@[simp] theorem State.issue_p (s : State) (v : Word) :
    (s.issue v).p = s.p := rfl
@[simp] theorem State.issue_n (s : State) (v : Word) :
    (s.issue v).n = s.n := rfl
@[simp] theorem State.issue_errPending (s : State) (v : Word) :
    (s.issue v).errPending = s.errPending := rfl
@[simp] theorem State.issue_opnd (s : State) (v : Word) :
    (s.issue v).opnd = s.opnd := rfl
@[simp] theorem State.issue_timer (s : State) (v : Word) :
    (s.issue v).timer = s.timer := rfl
@[simp] theorem State.issue_fb (s : State) (v : Word) :
    (s.issue v).fb = s.fb := rfl
@[simp] theorem State.issue_log (s : State) (v : Word) :
    (s.issue v).log = s.log ++ [.issue (opcOf v)] := rfl
@[simp] theorem State.issue_env (s : State) (v : Word) :
    (s.issue v).env = s.env := rfl
@[simp] theorem State.issue_hostProg (s : State) (v : Word) :
    (s.issue v).hostProg = s.hostProg := rfl
@[simp] theorem State.issue_resp (s : State) (v : Word) :
    (s.issue v).resp = s.resp := rfl
@[simp] theorem State.issue_sched (s : State) (v : Word) :
    (s.issue v).sched = s.sched := rfl
@[simp] theorem State.issue_turns (s : State) (v : Word) :
    (s.issue v).turns = s.turns := rfl
@[simp] theorem State.issue_hostLeft (s : State) (v : Word) :
    (s.issue v).hostLeft = s.hostLeft := rfl

/-! `State.turnTaken` -/

@[simp] theorem State.turnTaken_cfg (s : State) : s.turnTaken.cfg = s.cfg := by
  unfold State.turnTaken
  (repeat' split) <;> rfl
@[simp] theorem State.turnTaken_argVal (s : State) : s.turnTaken.argVal = s.argVal := by
  unfold State.turnTaken
  (repeat' split) <;> rfl
@[simp] theorem State.turnTaken_canvasW (s : State) : s.turnTaken.canvasW = s.canvasW := by
  unfold State.turnTaken
  (repeat' split) <;> rfl
@[simp] theorem State.turnTaken_canvasH (s : State) : s.turnTaken.canvasH = s.canvasH := by
  unfold State.turnTaken
  (repeat' split) <;> rfl
@[simp] theorem State.turnTaken_err (s : State) : s.turnTaken.err = s.err := by
  unfold State.turnTaken
  (repeat' split) <;> rfl
@[simp] theorem State.turnTaken_detail (s : State) : s.turnTaken.detail = s.detail := by
  unfold State.turnTaken
  (repeat' split) <;> rfl
@[simp] theorem State.turnTaken_rej (s : State) : s.turnTaken.rej = s.rej := by
  unfold State.turnTaken
  (repeat' split) <;> rfl
@[simp] theorem State.turnTaken_errinfo (s : State) : s.turnTaken.errinfo = s.errinfo := by
  unfold State.turnTaken
  (repeat' split) <;> rfl
@[simp] theorem State.turnTaken_fsm (s : State) : s.turnTaken.fsm = s.fsm := by
  unfold State.turnTaken
  (repeat' split) <;> rfl
@[simp] theorem State.turnTaken_active (s : State) : s.turnTaken.active = s.active := by
  unfold State.turnTaken
  (repeat' split) <;> rfl
@[simp] theorem State.turnTaken_pwr (s : State) : s.turnTaken.pwr = s.pwr := by
  unfold State.turnTaken
  (repeat' split) <;> rfl
@[simp] theorem State.turnTaken_rst (s : State) : s.turnTaken.rst = s.rst := by
  unfold State.turnTaken
  (repeat' split) <;> rfl
@[simp] theorem State.turnTaken_dc (s : State) : s.turnTaken.dc = s.dc := by
  unfold State.turnTaken
  (repeat' split) <;> rfl
@[simp] theorem State.turnTaken_busOpen (s : State) : s.turnTaken.busOpen = s.busOpen := by
  unfold State.turnTaken
  (repeat' split) <;> rfl
@[simp] theorem State.turnTaken_op (s : State) : s.turnTaken.op = s.op := by
  unfold State.turnTaken
  (repeat' split) <;> rfl
@[simp] theorem State.turnTaken_pc (s : State) : s.turnTaken.pc = s.pc := by
  unfold State.turnTaken
  (repeat' split) <;> rfl
@[simp] theorem State.turnTaken_i (s : State) : s.turnTaken.i = s.i := by
  unfold State.turnTaken
  (repeat' split) <;> rfl
@[simp] theorem State.turnTaken_j (s : State) : s.turnTaken.j = s.j := by
  unfold State.turnTaken
  (repeat' split) <;> rfl
@[simp] theorem State.turnTaken_k (s : State) : s.turnTaken.k = s.k := by
  unfold State.turnTaken
  (repeat' split) <;> rfl
@[simp] theorem State.turnTaken_p (s : State) : s.turnTaken.p = s.p := by
  unfold State.turnTaken
  (repeat' split) <;> rfl
@[simp] theorem State.turnTaken_n (s : State) : s.turnTaken.n = s.n := by
  unfold State.turnTaken
  (repeat' split) <;> rfl
@[simp] theorem State.turnTaken_errPending (s : State) : s.turnTaken.errPending = s.errPending := by
  unfold State.turnTaken
  (repeat' split) <;> rfl
@[simp] theorem State.turnTaken_opnd (s : State) : s.turnTaken.opnd = s.opnd := by
  unfold State.turnTaken
  (repeat' split) <;> rfl
@[simp] theorem State.turnTaken_timer (s : State) : s.turnTaken.timer = s.timer := by
  unfold State.turnTaken
  (repeat' split) <;> rfl
@[simp] theorem State.turnTaken_fb (s : State) : s.turnTaken.fb = s.fb := by
  unfold State.turnTaken
  (repeat' split) <;> rfl
@[simp] theorem State.turnTaken_log (s : State) : s.turnTaken.log = s.log := by
  unfold State.turnTaken
  (repeat' split) <;> rfl
@[simp] theorem State.turnTaken_env (s : State) : s.turnTaken.env = s.env := by
  unfold State.turnTaken
  (repeat' split) <;> rfl
@[simp] theorem State.turnTaken_hostProg (s : State) : s.turnTaken.hostProg = s.hostProg := by
  unfold State.turnTaken
  (repeat' split) <;> rfl
@[simp] theorem State.turnTaken_resp (s : State) : s.turnTaken.resp = s.resp := by
  unfold State.turnTaken
  (repeat' split) <;> rfl

end Sys2Proof.Machine
end

