-- ==== Sys2Proof/Laws/Ops.lean ====
section
/-! SUPPORT. One lemma per shared operation that says everything it can do: the bus gate, the write steps, the poll
steps, INIT's and SLEEP's own steps, RENDER's validation. Proofs cite these instead of unfolding the operations. -/

namespace Sys2Proof.Machine

/-! ## Panel answers -/

theorem Env.drawPoll_frame (e : Env) :
    e.drawPoll.2.writes = e.writes ∧ e.drawPoll.2.nWrite = e.nWrite ∧
      e.drawPoll.2.busyIns = e.busyIns ∧ e.drawPoll.2.nBusyIn = e.nBusyIn := by
  unfold Env.drawPoll
  split <;> simp

theorem Env.drawWrite_frame (e : Env) (bytes : List Byte) :
    (e.drawWrite bytes).2.polls = e.polls ∧ (e.drawWrite bytes).2.nPoll = e.nPoll ∧
      (e.drawWrite bytes).2.busyIns = e.busyIns ∧ (e.drawWrite bytes).2.nBusyIn = e.nBusyIn := by
  unfold Env.drawWrite
  split <;> simp

theorem Env.drawOpen_frame (e : Env) :
    e.drawOpen.2.polls = e.polls ∧ e.drawOpen.2.nPoll = e.nPoll ∧ e.drawOpen.2.writes = e.writes ∧
      e.drawOpen.2.nWrite = e.nWrite ∧ e.drawOpen.2.busyIns = e.busyIns ∧ e.drawOpen.2.nBusyIn = e.nBusyIn := by
  unfold Env.drawOpen
  split <;> simp

/-! ## The bus gate (R183) -/

theorem State.gated_open {s : State} {go : State → State} (h : s.busOpen = true) : s.gated go = go s := by
  simp [State.gated, h]

theorem State.gated_closed {s : State} {go : State → State} (h : s.busOpen = false) :
    s.gated go = s.raise .busIOFailure notOpen := by
  simp [State.gated, h]

/-! ## Writes (R142 to R145) -/

/-- A write appends one Write with the level of DC and the panel's answer; on a failure the sequencer stands at the
raise of WRITE_FAILED. -/
theorem State.sendStep_eq (s : State) (bytes : List Byte) (next : Pc) :
    s.sendStep bytes next =
      { s with
        env := (s.env.drawWrite bytes).2
        log := s.log ++ [.write s.dc bytes (s.env.drawWrite bytes).1]
        pc := if (s.env.drawWrite bytes).1 then next else .abort .busIOFailure writeFailed } := by
  cases h : (s.env.drawWrite bytes).1 <;> simp [State.sendStep, State.busWrite, State.goto, State.emit, h]

/-- A write of SLEEP: a failure is recorded and the sequencer goes to the bus close. -/
theorem State.tryStep_eq (s : State) (bytes : List Byte) (next : Pc) :
    s.tryStep bytes next =
      { s with
        env := (s.env.drawWrite bytes).2
        log := s.log ++ [.write s.dc bytes (s.env.drawWrite bytes).1]
        errPending := if (s.env.drawWrite bytes).1 then s.errPending else true
        pc := if (s.env.drawWrite bytes).1 then next else .rule 5 } := by
  cases h : (s.env.drawWrite bytes).1 <;> simp [State.tryStep, State.busWrite, State.goto, State.emit, h]

/-! ## The poll loop (R148) -/

/-- What a sample step can do: leave, delay (counting the sample if a timeout is configured), or time out. -/
theorem State.pollStep_cases (s : State) (wait exit : Pc) :
    ∃ m q, s.pollStep wait exit =
        { s with env := s.env.drawPoll.2, log := s.log ++ [.poll s.env.drawPoll.1], n := m, pc := q } ∧
      ((s.env.drawPoll.1 = s.cfg.busyIdleLevel ∧ m = s.n ∧ q = exit) ∨
       (s.env.drawPoll.1 = !s.cfg.busyIdleLevel ∧
        ((s.cfg.busyTimeoutPolls = none ∧ m = s.n ∧ q = wait) ∨
         (∃ limit, s.cfg.busyTimeoutPolls = some limit ∧ m = s.n + 1 ∧
          ((limit ≤ s.n + 1 ∧ q = .abort .busIOFailure busyTimeout) ∨ (s.n + 1 < limit ∧ q = wait)))))) := by
  have hb : s.env.drawPoll.1 ≠ s.cfg.busyIdleLevel → s.env.drawPoll.1 = !s.cfg.busyIdleLevel := by
    cases s.env.drawPoll.1 <;> cases s.cfg.busyIdleLevel <;> simp
  unfold State.pollStep State.sampleBusy
  by_cases h : s.env.drawPoll.1 = s.cfg.busyIdleLevel
  · exact ⟨s.n, exit, by rw [if_pos h]; rfl, .inl ⟨h, rfl, rfl⟩⟩
  · simp only [h, if_false]
    cases ht : s.cfg.busyTimeoutPolls with
    | none => exact ⟨s.n, wait, rfl, .inr ⟨hb h, .inl ⟨rfl, rfl, rfl⟩⟩⟩
    | some limit =>
      by_cases hl : limit ≤ s.n + 1
      · exact ⟨s.n + 1, _, by simp only [hl, if_true]; rfl, .inr ⟨hb h, .inr ⟨limit, rfl, rfl, .inl ⟨hl, rfl⟩⟩⟩⟩
      · exact ⟨s.n + 1, wait, by simp only [hl, if_false]; rfl,
          .inr ⟨hb h, .inr ⟨limit, rfl, rfl, .inr ⟨by omega, rfl⟩⟩⟩⟩

theorem State.pollStep_idle {s : State} {wait exit : Pc} (h : s.env.drawPoll.1 = s.cfg.busyIdleLevel) :
    s.pollStep wait exit =
      { s with env := s.env.drawPoll.2, log := s.log ++ [.poll s.cfg.busyIdleLevel], pc := exit } := by
  unfold State.pollStep State.sampleBusy
  rw [if_pos h, ← h]; rfl

/-! ## INIT's own steps (R162, R166) -/

theorem State.initOpen_eq (s : State) :
    s.initOpen =
      { s with
        env := s.env.drawOpen.2
        log := s.log ++ [.opened s.cfg.busClockHz s.cfg.busMode s.env.drawOpen.1]
        busOpen := if s.env.drawOpen.1 then true else s.busOpen
        pc := if s.env.drawOpen.1 then .rule 2 else .abort .busIOFailure openFailed } := by
  cases h : s.env.drawOpen.1 <;> simp [State.initOpen, State.busOpenOp, State.goto, State.emit, h]

/-- Where the sequencer goes after an entry, with the entry index it keeps. -/
theorem State.initNextEntry_cases (s : State) :
    (s.i + 1 < initTableLen ∧ s.initNextEntry = { s with i := s.i + 1, pc := .rule 12 }) ∨
      (initTableLen ≤ s.i + 1 ∧ s.initNextEntry = { s with pc := .rule 16 }) := by
  unfold State.initNextEntry
  by_cases h : s.i + 1 < initTableLen
  · exact .inl ⟨h, by rw [if_pos h]; rfl⟩
  · exact .inr ⟨by omega, by rw [if_neg h]; rfl⟩

/-- The command write of an entry: on to its data bytes, on to the next entry if it has none, or to the raise. -/
theorem State.initCommand_cases (s : State) (e : InitEntry) :
    ∃ t : State, t = { s with
          env := (s.env.drawWrite [e.cmd]).2
          log := s.log ++ [Event.write s.dc [e.cmd] (s.env.drawWrite [e.cmd]).1] } ∧
      (((s.env.drawWrite [e.cmd]).1 = true ∧ e.data = [] ∧ s.initCommand e = t.initNextEntry) ∨
       ((s.env.drawWrite [e.cmd]).1 = true ∧ e.data ≠ [] ∧ s.initCommand e = { t with j := 0, pc := .rule 14 }) ∨
       ((s.env.drawWrite [e.cmd]).1 = false ∧
        s.initCommand e = { t with pc := .abort .busIOFailure writeFailed })) := by
  refine ⟨_, rfl, ?_⟩
  cases h : (s.env.drawWrite [e.cmd]).1 <;> cases hd : e.data <;>
    simp [State.initCommand, State.busWrite, State.emit, State.goto, h, hd]

/-- The write of a data byte of an entry: on to the next byte, to the next entry, or to the raise. -/
theorem State.initData_cases (s : State) (e : InitEntry) (b : Byte) :
    ∃ t : State, t = { s with
          env := (s.env.drawWrite [b]).2
          log := s.log ++ [Event.write s.dc [b] (s.env.drawWrite [b]).1] } ∧
      (((s.env.drawWrite [b]).1 = true ∧ s.j + 1 < e.data.length ∧
          s.initData e b = { t with j := s.j + 1, pc := .rule 14 }) ∨
       ((s.env.drawWrite [b]).1 = true ∧ e.data.length ≤ s.j + 1 ∧ s.initData e b = t.initNextEntry) ∨
       ((s.env.drawWrite [b]).1 = false ∧
        s.initData e b = { t with pc := .abort .busIOFailure writeFailed })) := by
  refine ⟨_, rfl, ?_⟩
  by_cases hl : s.j + 1 < e.data.length <;> cases h : (s.env.drawWrite [b]).1 <;>
    simp [State.initData, State.busWrite, State.emit, State.goto, h, hl, Nat.not_lt.mp, Nat.not_le.mpr]

/-! ## RENDER's validation (R191) -/

theorem firstInvalidCell_none {m : List Host.Cell} :
    firstInvalidCell m = none ↔ ∀ a, a < npix → valid (Memory.read m a) = true := by
  unfold firstInvalidCell
  rw [List.find?_eq_none]
  constructor
  · intro h a ha
    have := h a (List.mem_range.mpr ha)
    simpa using this
  · intro h a ha
    simp [h a (List.mem_range.mp ha)]

theorem firstInvalidCell_some {m : List Host.Cell} {p : Nat} :
    firstInvalidCell m = some p ↔
      p < npix ∧ valid (Memory.read m p) = false ∧ ∀ q, q < p → valid (Memory.read m q) = true := by
  unfold firstInvalidCell
  rw [List.find?_range_eq_some, List.mem_range]
  constructor
  · rintro ⟨h1, h2, h3⟩
    exact ⟨h2, by simpa using h1, fun q hq => by simpa using h3 q hq⟩
  · rintro ⟨h1, h2, h3⟩
    exact ⟨by simpa using h2, h1, fun q hq => by simpa using h3 q hq⟩

theorem State.validated_ok {s : State} {go : State → State}
    (h : ∀ a, a < npix → valid (Memory.read s.fb a) = true) :
    s.validated go = go { s with p := npix - 1 } := by
  simp only [State.validated, firstInvalidCell_none.mpr h]

theorem State.validated_bad {s : State} {go : State → State} {p : Nat} (h : firstInvalidCell s.fb = some p) :
    s.validated go = { s with p := p, errinfo := BitVec.ofNat 19 p }.raise .paletteMismatch 0#2 := by
  simp only [State.validated, h]

end Sys2Proof.Machine
end

