-- ==== Sys2Proof/Laws/PerInstr.lean ====
section
/-! SUPPORT. A statement about every instruction as syntax, one lemma per constructor: the operation code of a
well-formed instruction selects its row (30_encoding.md R91, R92). -/

namespace Sys2Proof.Laws.RowCode

/-- The operation code of a row decodes to that row. -/
def Statement (i : Instr) : Prop := i.wf = true → decodeOpc i.opc = i

theorem illegal (opc : BitVec 4) : Statement (.illegal opc) := by
  revert opc
  unfold Statement
  decide

theorem init : Statement .init := fun _ => rfl
theorem cmd : Statement .cmd := fun _ => rfl
theorem data : Statement .data := fun _ => rfl
theorem waitIdle : Statement .waitIdle := fun _ => rfl
theorem render : Statement .render := fun _ => rfl
theorem refresh : Statement .refresh := fun _ => rfl
theorem clear : Statement .clear := fun _ => rfl
theorem sleep : Statement .sleep := fun _ => rfl

end Sys2Proof.Laws.RowCode
end

