-- ==== Sys2Proof/Laws/Steps.lean ====
section
/-! SUPPORT. What each composite step does to each field of the state it determines: one lemma per field. -/

namespace Sys2Proof.Machine

/-! `State.sendStep` -/

@[simp] theorem State.sendStep_cfg (s : State) (bytes : List Byte) (next : Pc) :
    (s.sendStep bytes next).cfg = s.cfg := by
  rw [State.sendStep_eq]
@[simp] theorem State.sendStep_argVal (s : State) (bytes : List Byte) (next : Pc) :
    (s.sendStep bytes next).argVal = s.argVal := by
  rw [State.sendStep_eq]
@[simp] theorem State.sendStep_canvasW (s : State) (bytes : List Byte) (next : Pc) :
    (s.sendStep bytes next).canvasW = s.canvasW := by
  rw [State.sendStep_eq]
@[simp] theorem State.sendStep_canvasH (s : State) (bytes : List Byte) (next : Pc) :
    (s.sendStep bytes next).canvasH = s.canvasH := by
  rw [State.sendStep_eq]
@[simp] theorem State.sendStep_err (s : State) (bytes : List Byte) (next : Pc) :
    (s.sendStep bytes next).err = s.err := by
  rw [State.sendStep_eq]
@[simp] theorem State.sendStep_detail (s : State) (bytes : List Byte) (next : Pc) :
    (s.sendStep bytes next).detail = s.detail := by
  rw [State.sendStep_eq]
@[simp] theorem State.sendStep_rej (s : State) (bytes : List Byte) (next : Pc) :
    (s.sendStep bytes next).rej = s.rej := by
  rw [State.sendStep_eq]
@[simp] theorem State.sendStep_errinfo (s : State) (bytes : List Byte) (next : Pc) :
    (s.sendStep bytes next).errinfo = s.errinfo := by
  rw [State.sendStep_eq]
@[simp] theorem State.sendStep_fsm (s : State) (bytes : List Byte) (next : Pc) :
    (s.sendStep bytes next).fsm = s.fsm := by
  rw [State.sendStep_eq]
@[simp] theorem State.sendStep_active (s : State) (bytes : List Byte) (next : Pc) :
    (s.sendStep bytes next).active = s.active := by
  rw [State.sendStep_eq]
@[simp] theorem State.sendStep_pwr (s : State) (bytes : List Byte) (next : Pc) :
    (s.sendStep bytes next).pwr = s.pwr := by
  rw [State.sendStep_eq]
@[simp] theorem State.sendStep_rst (s : State) (bytes : List Byte) (next : Pc) :
    (s.sendStep bytes next).rst = s.rst := by
  rw [State.sendStep_eq]
@[simp] theorem State.sendStep_dc (s : State) (bytes : List Byte) (next : Pc) :
    (s.sendStep bytes next).dc = s.dc := by
  rw [State.sendStep_eq]
@[simp] theorem State.sendStep_busOpen (s : State) (bytes : List Byte) (next : Pc) :
    (s.sendStep bytes next).busOpen = s.busOpen := by
  rw [State.sendStep_eq]
@[simp] theorem State.sendStep_op (s : State) (bytes : List Byte) (next : Pc) :
    (s.sendStep bytes next).op = s.op := by
  rw [State.sendStep_eq]
@[simp] theorem State.sendStep_pc (s : State) (bytes : List Byte) (next : Pc) :
    (s.sendStep bytes next).pc = if (s.env.drawWrite bytes).1 then next else .abort .busIOFailure writeFailed := by
  rw [State.sendStep_eq]
@[simp] theorem State.sendStep_i (s : State) (bytes : List Byte) (next : Pc) :
    (s.sendStep bytes next).i = s.i := by
  rw [State.sendStep_eq]
@[simp] theorem State.sendStep_j (s : State) (bytes : List Byte) (next : Pc) :
    (s.sendStep bytes next).j = s.j := by
  rw [State.sendStep_eq]
@[simp] theorem State.sendStep_k (s : State) (bytes : List Byte) (next : Pc) :
    (s.sendStep bytes next).k = s.k := by
  rw [State.sendStep_eq]
@[simp] theorem State.sendStep_p (s : State) (bytes : List Byte) (next : Pc) :
    (s.sendStep bytes next).p = s.p := by
  rw [State.sendStep_eq]
@[simp] theorem State.sendStep_n (s : State) (bytes : List Byte) (next : Pc) :
    (s.sendStep bytes next).n = s.n := by
  rw [State.sendStep_eq]
@[simp] theorem State.sendStep_errPending (s : State) (bytes : List Byte) (next : Pc) :
    (s.sendStep bytes next).errPending = s.errPending := by
  rw [State.sendStep_eq]
@[simp] theorem State.sendStep_opnd (s : State) (bytes : List Byte) (next : Pc) :
    (s.sendStep bytes next).opnd = s.opnd := by
  rw [State.sendStep_eq]
@[simp] theorem State.sendStep_timer (s : State) (bytes : List Byte) (next : Pc) :
    (s.sendStep bytes next).timer = s.timer := by
  rw [State.sendStep_eq]
@[simp] theorem State.sendStep_fb (s : State) (bytes : List Byte) (next : Pc) :
    (s.sendStep bytes next).fb = s.fb := by
  rw [State.sendStep_eq]
@[simp] theorem State.sendStep_log (s : State) (bytes : List Byte) (next : Pc) :
    (s.sendStep bytes next).log = s.log ++ [.write s.dc bytes (s.env.drawWrite bytes).1] := by
  rw [State.sendStep_eq]
@[simp] theorem State.sendStep_env (s : State) (bytes : List Byte) (next : Pc) :
    (s.sendStep bytes next).env = (s.env.drawWrite bytes).2 := by
  rw [State.sendStep_eq]
@[simp] theorem State.sendStep_hostProg (s : State) (bytes : List Byte) (next : Pc) :
    (s.sendStep bytes next).hostProg = s.hostProg := by
  rw [State.sendStep_eq]
@[simp] theorem State.sendStep_resp (s : State) (bytes : List Byte) (next : Pc) :
    (s.sendStep bytes next).resp = s.resp := by
  rw [State.sendStep_eq]
@[simp] theorem State.sendStep_sched (s : State) (bytes : List Byte) (next : Pc) :
    (s.sendStep bytes next).sched = s.sched := by
  rw [State.sendStep_eq]
@[simp] theorem State.sendStep_turns (s : State) (bytes : List Byte) (next : Pc) :
    (s.sendStep bytes next).turns = s.turns := by
  rw [State.sendStep_eq]
@[simp] theorem State.sendStep_hostLeft (s : State) (bytes : List Byte) (next : Pc) :
    (s.sendStep bytes next).hostLeft = s.hostLeft := by
  rw [State.sendStep_eq]

/-! `State.tryStep` -/

@[simp] theorem State.tryStep_cfg (s : State) (bytes : List Byte) (next : Pc) :
    (s.tryStep bytes next).cfg = s.cfg := by
  rw [State.tryStep_eq]
@[simp] theorem State.tryStep_argVal (s : State) (bytes : List Byte) (next : Pc) :
    (s.tryStep bytes next).argVal = s.argVal := by
  rw [State.tryStep_eq]
@[simp] theorem State.tryStep_canvasW (s : State) (bytes : List Byte) (next : Pc) :
    (s.tryStep bytes next).canvasW = s.canvasW := by
  rw [State.tryStep_eq]
@[simp] theorem State.tryStep_canvasH (s : State) (bytes : List Byte) (next : Pc) :
    (s.tryStep bytes next).canvasH = s.canvasH := by
  rw [State.tryStep_eq]
@[simp] theorem State.tryStep_err (s : State) (bytes : List Byte) (next : Pc) :
    (s.tryStep bytes next).err = s.err := by
  rw [State.tryStep_eq]
@[simp] theorem State.tryStep_detail (s : State) (bytes : List Byte) (next : Pc) :
    (s.tryStep bytes next).detail = s.detail := by
  rw [State.tryStep_eq]
@[simp] theorem State.tryStep_rej (s : State) (bytes : List Byte) (next : Pc) :
    (s.tryStep bytes next).rej = s.rej := by
  rw [State.tryStep_eq]
@[simp] theorem State.tryStep_errinfo (s : State) (bytes : List Byte) (next : Pc) :
    (s.tryStep bytes next).errinfo = s.errinfo := by
  rw [State.tryStep_eq]
@[simp] theorem State.tryStep_fsm (s : State) (bytes : List Byte) (next : Pc) :
    (s.tryStep bytes next).fsm = s.fsm := by
  rw [State.tryStep_eq]
@[simp] theorem State.tryStep_active (s : State) (bytes : List Byte) (next : Pc) :
    (s.tryStep bytes next).active = s.active := by
  rw [State.tryStep_eq]
@[simp] theorem State.tryStep_pwr (s : State) (bytes : List Byte) (next : Pc) :
    (s.tryStep bytes next).pwr = s.pwr := by
  rw [State.tryStep_eq]
@[simp] theorem State.tryStep_rst (s : State) (bytes : List Byte) (next : Pc) :
    (s.tryStep bytes next).rst = s.rst := by
  rw [State.tryStep_eq]
@[simp] theorem State.tryStep_dc (s : State) (bytes : List Byte) (next : Pc) :
    (s.tryStep bytes next).dc = s.dc := by
  rw [State.tryStep_eq]
@[simp] theorem State.tryStep_busOpen (s : State) (bytes : List Byte) (next : Pc) :
    (s.tryStep bytes next).busOpen = s.busOpen := by
  rw [State.tryStep_eq]
@[simp] theorem State.tryStep_op (s : State) (bytes : List Byte) (next : Pc) :
    (s.tryStep bytes next).op = s.op := by
  rw [State.tryStep_eq]
@[simp] theorem State.tryStep_pc (s : State) (bytes : List Byte) (next : Pc) :
    (s.tryStep bytes next).pc = if (s.env.drawWrite bytes).1 then next else .rule 5 := by
  rw [State.tryStep_eq]
@[simp] theorem State.tryStep_i (s : State) (bytes : List Byte) (next : Pc) :
    (s.tryStep bytes next).i = s.i := by
  rw [State.tryStep_eq]
@[simp] theorem State.tryStep_j (s : State) (bytes : List Byte) (next : Pc) :
    (s.tryStep bytes next).j = s.j := by
  rw [State.tryStep_eq]
@[simp] theorem State.tryStep_k (s : State) (bytes : List Byte) (next : Pc) :
    (s.tryStep bytes next).k = s.k := by
  rw [State.tryStep_eq]
@[simp] theorem State.tryStep_p (s : State) (bytes : List Byte) (next : Pc) :
    (s.tryStep bytes next).p = s.p := by
  rw [State.tryStep_eq]
@[simp] theorem State.tryStep_n (s : State) (bytes : List Byte) (next : Pc) :
    (s.tryStep bytes next).n = s.n := by
  rw [State.tryStep_eq]
@[simp] theorem State.tryStep_errPending (s : State) (bytes : List Byte) (next : Pc) :
    (s.tryStep bytes next).errPending = if (s.env.drawWrite bytes).1 then s.errPending else true := by
  rw [State.tryStep_eq]
@[simp] theorem State.tryStep_opnd (s : State) (bytes : List Byte) (next : Pc) :
    (s.tryStep bytes next).opnd = s.opnd := by
  rw [State.tryStep_eq]
@[simp] theorem State.tryStep_timer (s : State) (bytes : List Byte) (next : Pc) :
    (s.tryStep bytes next).timer = s.timer := by
  rw [State.tryStep_eq]
@[simp] theorem State.tryStep_fb (s : State) (bytes : List Byte) (next : Pc) :
    (s.tryStep bytes next).fb = s.fb := by
  rw [State.tryStep_eq]
@[simp] theorem State.tryStep_log (s : State) (bytes : List Byte) (next : Pc) :
    (s.tryStep bytes next).log = s.log ++ [.write s.dc bytes (s.env.drawWrite bytes).1] := by
  rw [State.tryStep_eq]
@[simp] theorem State.tryStep_env (s : State) (bytes : List Byte) (next : Pc) :
    (s.tryStep bytes next).env = (s.env.drawWrite bytes).2 := by
  rw [State.tryStep_eq]
@[simp] theorem State.tryStep_hostProg (s : State) (bytes : List Byte) (next : Pc) :
    (s.tryStep bytes next).hostProg = s.hostProg := by
  rw [State.tryStep_eq]
@[simp] theorem State.tryStep_resp (s : State) (bytes : List Byte) (next : Pc) :
    (s.tryStep bytes next).resp = s.resp := by
  rw [State.tryStep_eq]
@[simp] theorem State.tryStep_sched (s : State) (bytes : List Byte) (next : Pc) :
    (s.tryStep bytes next).sched = s.sched := by
  rw [State.tryStep_eq]
@[simp] theorem State.tryStep_turns (s : State) (bytes : List Byte) (next : Pc) :
    (s.tryStep bytes next).turns = s.turns := by
  rw [State.tryStep_eq]
@[simp] theorem State.tryStep_hostLeft (s : State) (bytes : List Byte) (next : Pc) :
    (s.tryStep bytes next).hostLeft = s.hostLeft := by
  rw [State.tryStep_eq]

/-! `State.pollStep` -/

@[simp] theorem State.pollStep_cfg (s : State) (wait exit : Pc) :
    (s.pollStep wait exit).cfg = s.cfg := by
  obtain ⟨m, q, h, -⟩ := s.pollStep_cases wait exit
  rw [h]
@[simp] theorem State.pollStep_argVal (s : State) (wait exit : Pc) :
    (s.pollStep wait exit).argVal = s.argVal := by
  obtain ⟨m, q, h, -⟩ := s.pollStep_cases wait exit
  rw [h]
@[simp] theorem State.pollStep_canvasW (s : State) (wait exit : Pc) :
    (s.pollStep wait exit).canvasW = s.canvasW := by
  obtain ⟨m, q, h, -⟩ := s.pollStep_cases wait exit
  rw [h]
@[simp] theorem State.pollStep_canvasH (s : State) (wait exit : Pc) :
    (s.pollStep wait exit).canvasH = s.canvasH := by
  obtain ⟨m, q, h, -⟩ := s.pollStep_cases wait exit
  rw [h]
@[simp] theorem State.pollStep_err (s : State) (wait exit : Pc) :
    (s.pollStep wait exit).err = s.err := by
  obtain ⟨m, q, h, -⟩ := s.pollStep_cases wait exit
  rw [h]
@[simp] theorem State.pollStep_detail (s : State) (wait exit : Pc) :
    (s.pollStep wait exit).detail = s.detail := by
  obtain ⟨m, q, h, -⟩ := s.pollStep_cases wait exit
  rw [h]
@[simp] theorem State.pollStep_rej (s : State) (wait exit : Pc) :
    (s.pollStep wait exit).rej = s.rej := by
  obtain ⟨m, q, h, -⟩ := s.pollStep_cases wait exit
  rw [h]
@[simp] theorem State.pollStep_errinfo (s : State) (wait exit : Pc) :
    (s.pollStep wait exit).errinfo = s.errinfo := by
  obtain ⟨m, q, h, -⟩ := s.pollStep_cases wait exit
  rw [h]
@[simp] theorem State.pollStep_fsm (s : State) (wait exit : Pc) :
    (s.pollStep wait exit).fsm = s.fsm := by
  obtain ⟨m, q, h, -⟩ := s.pollStep_cases wait exit
  rw [h]
@[simp] theorem State.pollStep_active (s : State) (wait exit : Pc) :
    (s.pollStep wait exit).active = s.active := by
  obtain ⟨m, q, h, -⟩ := s.pollStep_cases wait exit
  rw [h]
@[simp] theorem State.pollStep_pwr (s : State) (wait exit : Pc) :
    (s.pollStep wait exit).pwr = s.pwr := by
  obtain ⟨m, q, h, -⟩ := s.pollStep_cases wait exit
  rw [h]
@[simp] theorem State.pollStep_rst (s : State) (wait exit : Pc) :
    (s.pollStep wait exit).rst = s.rst := by
  obtain ⟨m, q, h, -⟩ := s.pollStep_cases wait exit
  rw [h]
@[simp] theorem State.pollStep_dc (s : State) (wait exit : Pc) :
    (s.pollStep wait exit).dc = s.dc := by
  obtain ⟨m, q, h, -⟩ := s.pollStep_cases wait exit
  rw [h]
@[simp] theorem State.pollStep_busOpen (s : State) (wait exit : Pc) :
    (s.pollStep wait exit).busOpen = s.busOpen := by
  obtain ⟨m, q, h, -⟩ := s.pollStep_cases wait exit
  rw [h]
@[simp] theorem State.pollStep_op (s : State) (wait exit : Pc) :
    (s.pollStep wait exit).op = s.op := by
  obtain ⟨m, q, h, -⟩ := s.pollStep_cases wait exit
  rw [h]
@[simp] theorem State.pollStep_i (s : State) (wait exit : Pc) :
    (s.pollStep wait exit).i = s.i := by
  obtain ⟨m, q, h, -⟩ := s.pollStep_cases wait exit
  rw [h]
@[simp] theorem State.pollStep_j (s : State) (wait exit : Pc) :
    (s.pollStep wait exit).j = s.j := by
  obtain ⟨m, q, h, -⟩ := s.pollStep_cases wait exit
  rw [h]
@[simp] theorem State.pollStep_k (s : State) (wait exit : Pc) :
    (s.pollStep wait exit).k = s.k := by
  obtain ⟨m, q, h, -⟩ := s.pollStep_cases wait exit
  rw [h]
@[simp] theorem State.pollStep_p (s : State) (wait exit : Pc) :
    (s.pollStep wait exit).p = s.p := by
  obtain ⟨m, q, h, -⟩ := s.pollStep_cases wait exit
  rw [h]
@[simp] theorem State.pollStep_errPending (s : State) (wait exit : Pc) :
    (s.pollStep wait exit).errPending = s.errPending := by
  obtain ⟨m, q, h, -⟩ := s.pollStep_cases wait exit
  rw [h]
@[simp] theorem State.pollStep_opnd (s : State) (wait exit : Pc) :
    (s.pollStep wait exit).opnd = s.opnd := by
  obtain ⟨m, q, h, -⟩ := s.pollStep_cases wait exit
  rw [h]
@[simp] theorem State.pollStep_timer (s : State) (wait exit : Pc) :
    (s.pollStep wait exit).timer = s.timer := by
  obtain ⟨m, q, h, -⟩ := s.pollStep_cases wait exit
  rw [h]
@[simp] theorem State.pollStep_fb (s : State) (wait exit : Pc) :
    (s.pollStep wait exit).fb = s.fb := by
  obtain ⟨m, q, h, -⟩ := s.pollStep_cases wait exit
  rw [h]
@[simp] theorem State.pollStep_log (s : State) (wait exit : Pc) :
    (s.pollStep wait exit).log = s.log ++ [.poll s.env.drawPoll.1] := by
  obtain ⟨m, q, h, -⟩ := s.pollStep_cases wait exit
  rw [h]
@[simp] theorem State.pollStep_env (s : State) (wait exit : Pc) :
    (s.pollStep wait exit).env = s.env.drawPoll.2 := by
  obtain ⟨m, q, h, -⟩ := s.pollStep_cases wait exit
  rw [h]
@[simp] theorem State.pollStep_hostProg (s : State) (wait exit : Pc) :
    (s.pollStep wait exit).hostProg = s.hostProg := by
  obtain ⟨m, q, h, -⟩ := s.pollStep_cases wait exit
  rw [h]
@[simp] theorem State.pollStep_resp (s : State) (wait exit : Pc) :
    (s.pollStep wait exit).resp = s.resp := by
  obtain ⟨m, q, h, -⟩ := s.pollStep_cases wait exit
  rw [h]
@[simp] theorem State.pollStep_sched (s : State) (wait exit : Pc) :
    (s.pollStep wait exit).sched = s.sched := by
  obtain ⟨m, q, h, -⟩ := s.pollStep_cases wait exit
  rw [h]
@[simp] theorem State.pollStep_turns (s : State) (wait exit : Pc) :
    (s.pollStep wait exit).turns = s.turns := by
  obtain ⟨m, q, h, -⟩ := s.pollStep_cases wait exit
  rw [h]
@[simp] theorem State.pollStep_hostLeft (s : State) (wait exit : Pc) :
    (s.pollStep wait exit).hostLeft = s.hostLeft := by
  obtain ⟨m, q, h, -⟩ := s.pollStep_cases wait exit
  rw [h]

/-! `State.pollStart` -/

@[simp] theorem State.pollStart_cfg (s : State) (wait exit : Pc) :
    (s.pollStart wait exit).cfg = s.cfg := State.pollStep_cfg _ _ _
@[simp] theorem State.pollStart_argVal (s : State) (wait exit : Pc) :
    (s.pollStart wait exit).argVal = s.argVal := State.pollStep_argVal _ _ _
@[simp] theorem State.pollStart_canvasW (s : State) (wait exit : Pc) :
    (s.pollStart wait exit).canvasW = s.canvasW := State.pollStep_canvasW _ _ _
@[simp] theorem State.pollStart_canvasH (s : State) (wait exit : Pc) :
    (s.pollStart wait exit).canvasH = s.canvasH := State.pollStep_canvasH _ _ _
@[simp] theorem State.pollStart_err (s : State) (wait exit : Pc) :
    (s.pollStart wait exit).err = s.err := State.pollStep_err _ _ _
@[simp] theorem State.pollStart_detail (s : State) (wait exit : Pc) :
    (s.pollStart wait exit).detail = s.detail := State.pollStep_detail _ _ _
@[simp] theorem State.pollStart_rej (s : State) (wait exit : Pc) :
    (s.pollStart wait exit).rej = s.rej := State.pollStep_rej _ _ _
@[simp] theorem State.pollStart_errinfo (s : State) (wait exit : Pc) :
    (s.pollStart wait exit).errinfo = s.errinfo := State.pollStep_errinfo _ _ _
@[simp] theorem State.pollStart_fsm (s : State) (wait exit : Pc) :
    (s.pollStart wait exit).fsm = s.fsm := State.pollStep_fsm _ _ _
@[simp] theorem State.pollStart_active (s : State) (wait exit : Pc) :
    (s.pollStart wait exit).active = s.active := State.pollStep_active _ _ _
@[simp] theorem State.pollStart_pwr (s : State) (wait exit : Pc) :
    (s.pollStart wait exit).pwr = s.pwr := State.pollStep_pwr _ _ _
@[simp] theorem State.pollStart_rst (s : State) (wait exit : Pc) :
    (s.pollStart wait exit).rst = s.rst := State.pollStep_rst _ _ _
@[simp] theorem State.pollStart_dc (s : State) (wait exit : Pc) :
    (s.pollStart wait exit).dc = s.dc := State.pollStep_dc _ _ _
@[simp] theorem State.pollStart_busOpen (s : State) (wait exit : Pc) :
    (s.pollStart wait exit).busOpen = s.busOpen := State.pollStep_busOpen _ _ _
@[simp] theorem State.pollStart_op (s : State) (wait exit : Pc) :
    (s.pollStart wait exit).op = s.op := State.pollStep_op _ _ _
@[simp] theorem State.pollStart_i (s : State) (wait exit : Pc) :
    (s.pollStart wait exit).i = s.i := State.pollStep_i _ _ _
@[simp] theorem State.pollStart_j (s : State) (wait exit : Pc) :
    (s.pollStart wait exit).j = s.j := State.pollStep_j _ _ _
@[simp] theorem State.pollStart_k (s : State) (wait exit : Pc) :
    (s.pollStart wait exit).k = s.k := State.pollStep_k _ _ _
@[simp] theorem State.pollStart_p (s : State) (wait exit : Pc) :
    (s.pollStart wait exit).p = s.p := State.pollStep_p _ _ _
@[simp] theorem State.pollStart_errPending (s : State) (wait exit : Pc) :
    (s.pollStart wait exit).errPending = s.errPending := State.pollStep_errPending _ _ _
@[simp] theorem State.pollStart_opnd (s : State) (wait exit : Pc) :
    (s.pollStart wait exit).opnd = s.opnd := State.pollStep_opnd _ _ _
@[simp] theorem State.pollStart_timer (s : State) (wait exit : Pc) :
    (s.pollStart wait exit).timer = s.timer := State.pollStep_timer _ _ _
@[simp] theorem State.pollStart_fb (s : State) (wait exit : Pc) :
    (s.pollStart wait exit).fb = s.fb := State.pollStep_fb _ _ _
@[simp] theorem State.pollStart_log (s : State) (wait exit : Pc) :
    (s.pollStart wait exit).log = s.log ++ [.poll s.env.drawPoll.1] := State.pollStep_log _ _ _
@[simp] theorem State.pollStart_env (s : State) (wait exit : Pc) :
    (s.pollStart wait exit).env = s.env.drawPoll.2 := State.pollStep_env _ _ _
@[simp] theorem State.pollStart_hostProg (s : State) (wait exit : Pc) :
    (s.pollStart wait exit).hostProg = s.hostProg := State.pollStep_hostProg _ _ _
@[simp] theorem State.pollStart_resp (s : State) (wait exit : Pc) :
    (s.pollStart wait exit).resp = s.resp := State.pollStep_resp _ _ _
@[simp] theorem State.pollStart_sched (s : State) (wait exit : Pc) :
    (s.pollStart wait exit).sched = s.sched := State.pollStep_sched _ _ _
@[simp] theorem State.pollStart_turns (s : State) (wait exit : Pc) :
    (s.pollStart wait exit).turns = s.turns := State.pollStep_turns _ _ _
@[simp] theorem State.pollStart_hostLeft (s : State) (wait exit : Pc) :
    (s.pollStart wait exit).hostLeft = s.hostLeft := State.pollStep_hostLeft _ _ _

/-! `State.pollWait` -/

@[simp] theorem State.pollWait_cfg (s : State) (again : Pc) :
    (s.pollWait again).cfg = s.cfg := rfl
@[simp] theorem State.pollWait_argVal (s : State) (again : Pc) :
    (s.pollWait again).argVal = s.argVal := rfl
@[simp] theorem State.pollWait_canvasW (s : State) (again : Pc) :
    (s.pollWait again).canvasW = s.canvasW := rfl
@[simp] theorem State.pollWait_canvasH (s : State) (again : Pc) :
    (s.pollWait again).canvasH = s.canvasH := rfl
@[simp] theorem State.pollWait_err (s : State) (again : Pc) :
    (s.pollWait again).err = s.err := rfl
@[simp] theorem State.pollWait_detail (s : State) (again : Pc) :
    (s.pollWait again).detail = s.detail := rfl
@[simp] theorem State.pollWait_rej (s : State) (again : Pc) :
    (s.pollWait again).rej = s.rej := rfl
@[simp] theorem State.pollWait_errinfo (s : State) (again : Pc) :
    (s.pollWait again).errinfo = s.errinfo := rfl
@[simp] theorem State.pollWait_fsm (s : State) (again : Pc) :
    (s.pollWait again).fsm = s.fsm := rfl
@[simp] theorem State.pollWait_active (s : State) (again : Pc) :
    (s.pollWait again).active = s.active := rfl
@[simp] theorem State.pollWait_pwr (s : State) (again : Pc) :
    (s.pollWait again).pwr = s.pwr := rfl
@[simp] theorem State.pollWait_rst (s : State) (again : Pc) :
    (s.pollWait again).rst = s.rst := rfl
@[simp] theorem State.pollWait_dc (s : State) (again : Pc) :
    (s.pollWait again).dc = s.dc := rfl
@[simp] theorem State.pollWait_busOpen (s : State) (again : Pc) :
    (s.pollWait again).busOpen = s.busOpen := rfl
@[simp] theorem State.pollWait_op (s : State) (again : Pc) :
    (s.pollWait again).op = s.op := rfl
@[simp] theorem State.pollWait_pc (s : State) (again : Pc) :
    (s.pollWait again).pc = again := rfl
@[simp] theorem State.pollWait_i (s : State) (again : Pc) :
    (s.pollWait again).i = s.i := rfl
@[simp] theorem State.pollWait_j (s : State) (again : Pc) :
    (s.pollWait again).j = s.j := rfl
@[simp] theorem State.pollWait_k (s : State) (again : Pc) :
    (s.pollWait again).k = s.k := rfl
@[simp] theorem State.pollWait_p (s : State) (again : Pc) :
    (s.pollWait again).p = s.p := rfl
@[simp] theorem State.pollWait_n (s : State) (again : Pc) :
    (s.pollWait again).n = s.n := rfl
@[simp] theorem State.pollWait_errPending (s : State) (again : Pc) :
    (s.pollWait again).errPending = s.errPending := rfl
@[simp] theorem State.pollWait_opnd (s : State) (again : Pc) :
    (s.pollWait again).opnd = s.opnd := rfl
@[simp] theorem State.pollWait_timer (s : State) (again : Pc) :
    (s.pollWait again).timer = delayTicks s.cfg tPoll := rfl
@[simp] theorem State.pollWait_fb (s : State) (again : Pc) :
    (s.pollWait again).fb = s.fb := rfl
@[simp] theorem State.pollWait_log (s : State) (again : Pc) :
    (s.pollWait again).log = s.log ++ [.delay tPoll] := rfl
@[simp] theorem State.pollWait_env (s : State) (again : Pc) :
    (s.pollWait again).env = s.env := rfl
@[simp] theorem State.pollWait_hostProg (s : State) (again : Pc) :
    (s.pollWait again).hostProg = s.hostProg := rfl
@[simp] theorem State.pollWait_resp (s : State) (again : Pc) :
    (s.pollWait again).resp = s.resp := rfl
@[simp] theorem State.pollWait_sched (s : State) (again : Pc) :
    (s.pollWait again).sched = s.sched := rfl
@[simp] theorem State.pollWait_turns (s : State) (again : Pc) :
    (s.pollWait again).turns = s.turns := rfl
@[simp] theorem State.pollWait_hostLeft (s : State) (again : Pc) :
    (s.pollWait again).hostLeft = s.hostLeft := rfl

/-! `State.initOpen` -/

@[simp] theorem State.initOpen_cfg (s : State) :
    (s.initOpen).cfg = s.cfg := by
  rw [State.initOpen_eq]
@[simp] theorem State.initOpen_argVal (s : State) :
    (s.initOpen).argVal = s.argVal := by
  rw [State.initOpen_eq]
@[simp] theorem State.initOpen_canvasW (s : State) :
    (s.initOpen).canvasW = s.canvasW := by
  rw [State.initOpen_eq]
@[simp] theorem State.initOpen_canvasH (s : State) :
    (s.initOpen).canvasH = s.canvasH := by
  rw [State.initOpen_eq]
@[simp] theorem State.initOpen_err (s : State) :
    (s.initOpen).err = s.err := by
  rw [State.initOpen_eq]
@[simp] theorem State.initOpen_detail (s : State) :
    (s.initOpen).detail = s.detail := by
  rw [State.initOpen_eq]
@[simp] theorem State.initOpen_rej (s : State) :
    (s.initOpen).rej = s.rej := by
  rw [State.initOpen_eq]
@[simp] theorem State.initOpen_errinfo (s : State) :
    (s.initOpen).errinfo = s.errinfo := by
  rw [State.initOpen_eq]
@[simp] theorem State.initOpen_fsm (s : State) :
    (s.initOpen).fsm = s.fsm := by
  rw [State.initOpen_eq]
@[simp] theorem State.initOpen_active (s : State) :
    (s.initOpen).active = s.active := by
  rw [State.initOpen_eq]
@[simp] theorem State.initOpen_pwr (s : State) :
    (s.initOpen).pwr = s.pwr := by
  rw [State.initOpen_eq]
@[simp] theorem State.initOpen_rst (s : State) :
    (s.initOpen).rst = s.rst := by
  rw [State.initOpen_eq]
@[simp] theorem State.initOpen_dc (s : State) :
    (s.initOpen).dc = s.dc := by
  rw [State.initOpen_eq]
@[simp] theorem State.initOpen_busOpen (s : State) :
    (s.initOpen).busOpen = if s.env.drawOpen.1 then true else s.busOpen := by
  rw [State.initOpen_eq]
@[simp] theorem State.initOpen_op (s : State) :
    (s.initOpen).op = s.op := by
  rw [State.initOpen_eq]
@[simp] theorem State.initOpen_pc (s : State) :
    (s.initOpen).pc = if s.env.drawOpen.1 then .rule 2 else .abort .busIOFailure openFailed := by
  rw [State.initOpen_eq]
@[simp] theorem State.initOpen_i (s : State) :
    (s.initOpen).i = s.i := by
  rw [State.initOpen_eq]
@[simp] theorem State.initOpen_j (s : State) :
    (s.initOpen).j = s.j := by
  rw [State.initOpen_eq]
@[simp] theorem State.initOpen_k (s : State) :
    (s.initOpen).k = s.k := by
  rw [State.initOpen_eq]
@[simp] theorem State.initOpen_p (s : State) :
    (s.initOpen).p = s.p := by
  rw [State.initOpen_eq]
@[simp] theorem State.initOpen_n (s : State) :
    (s.initOpen).n = s.n := by
  rw [State.initOpen_eq]
@[simp] theorem State.initOpen_errPending (s : State) :
    (s.initOpen).errPending = s.errPending := by
  rw [State.initOpen_eq]
@[simp] theorem State.initOpen_opnd (s : State) :
    (s.initOpen).opnd = s.opnd := by
  rw [State.initOpen_eq]
@[simp] theorem State.initOpen_timer (s : State) :
    (s.initOpen).timer = s.timer := by
  rw [State.initOpen_eq]
@[simp] theorem State.initOpen_fb (s : State) :
    (s.initOpen).fb = s.fb := by
  rw [State.initOpen_eq]
@[simp] theorem State.initOpen_log (s : State) :
    (s.initOpen).log = s.log ++ [.opened s.cfg.busClockHz s.cfg.busMode s.env.drawOpen.1] := by
  rw [State.initOpen_eq]
@[simp] theorem State.initOpen_env (s : State) :
    (s.initOpen).env = s.env.drawOpen.2 := by
  rw [State.initOpen_eq]
@[simp] theorem State.initOpen_hostProg (s : State) :
    (s.initOpen).hostProg = s.hostProg := by
  rw [State.initOpen_eq]
@[simp] theorem State.initOpen_resp (s : State) :
    (s.initOpen).resp = s.resp := by
  rw [State.initOpen_eq]
@[simp] theorem State.initOpen_sched (s : State) :
    (s.initOpen).sched = s.sched := by
  rw [State.initOpen_eq]
@[simp] theorem State.initOpen_turns (s : State) :
    (s.initOpen).turns = s.turns := by
  rw [State.initOpen_eq]
@[simp] theorem State.initOpen_hostLeft (s : State) :
    (s.initOpen).hostLeft = s.hostLeft := by
  rw [State.initOpen_eq]

/-! `State.initNextEntry` -/

@[simp] theorem State.initNextEntry_cfg (s : State) :
    (s.initNextEntry).cfg = s.cfg := by
  obtain ⟨-, h⟩ | ⟨-, h⟩ := s.initNextEntry_cases <;> rw [h]
@[simp] theorem State.initNextEntry_argVal (s : State) :
    (s.initNextEntry).argVal = s.argVal := by
  obtain ⟨-, h⟩ | ⟨-, h⟩ := s.initNextEntry_cases <;> rw [h]
@[simp] theorem State.initNextEntry_canvasW (s : State) :
    (s.initNextEntry).canvasW = s.canvasW := by
  obtain ⟨-, h⟩ | ⟨-, h⟩ := s.initNextEntry_cases <;> rw [h]
@[simp] theorem State.initNextEntry_canvasH (s : State) :
    (s.initNextEntry).canvasH = s.canvasH := by
  obtain ⟨-, h⟩ | ⟨-, h⟩ := s.initNextEntry_cases <;> rw [h]
@[simp] theorem State.initNextEntry_err (s : State) :
    (s.initNextEntry).err = s.err := by
  obtain ⟨-, h⟩ | ⟨-, h⟩ := s.initNextEntry_cases <;> rw [h]
@[simp] theorem State.initNextEntry_detail (s : State) :
    (s.initNextEntry).detail = s.detail := by
  obtain ⟨-, h⟩ | ⟨-, h⟩ := s.initNextEntry_cases <;> rw [h]
@[simp] theorem State.initNextEntry_rej (s : State) :
    (s.initNextEntry).rej = s.rej := by
  obtain ⟨-, h⟩ | ⟨-, h⟩ := s.initNextEntry_cases <;> rw [h]
@[simp] theorem State.initNextEntry_errinfo (s : State) :
    (s.initNextEntry).errinfo = s.errinfo := by
  obtain ⟨-, h⟩ | ⟨-, h⟩ := s.initNextEntry_cases <;> rw [h]
@[simp] theorem State.initNextEntry_fsm (s : State) :
    (s.initNextEntry).fsm = s.fsm := by
  obtain ⟨-, h⟩ | ⟨-, h⟩ := s.initNextEntry_cases <;> rw [h]
@[simp] theorem State.initNextEntry_active (s : State) :
    (s.initNextEntry).active = s.active := by
  obtain ⟨-, h⟩ | ⟨-, h⟩ := s.initNextEntry_cases <;> rw [h]
@[simp] theorem State.initNextEntry_pwr (s : State) :
    (s.initNextEntry).pwr = s.pwr := by
  obtain ⟨-, h⟩ | ⟨-, h⟩ := s.initNextEntry_cases <;> rw [h]
@[simp] theorem State.initNextEntry_rst (s : State) :
    (s.initNextEntry).rst = s.rst := by
  obtain ⟨-, h⟩ | ⟨-, h⟩ := s.initNextEntry_cases <;> rw [h]
@[simp] theorem State.initNextEntry_dc (s : State) :
    (s.initNextEntry).dc = s.dc := by
  obtain ⟨-, h⟩ | ⟨-, h⟩ := s.initNextEntry_cases <;> rw [h]
@[simp] theorem State.initNextEntry_busOpen (s : State) :
    (s.initNextEntry).busOpen = s.busOpen := by
  obtain ⟨-, h⟩ | ⟨-, h⟩ := s.initNextEntry_cases <;> rw [h]
@[simp] theorem State.initNextEntry_op (s : State) :
    (s.initNextEntry).op = s.op := by
  obtain ⟨-, h⟩ | ⟨-, h⟩ := s.initNextEntry_cases <;> rw [h]
@[simp] theorem State.initNextEntry_j (s : State) :
    (s.initNextEntry).j = s.j := by
  obtain ⟨-, h⟩ | ⟨-, h⟩ := s.initNextEntry_cases <;> rw [h]
@[simp] theorem State.initNextEntry_k (s : State) :
    (s.initNextEntry).k = s.k := by
  obtain ⟨-, h⟩ | ⟨-, h⟩ := s.initNextEntry_cases <;> rw [h]
@[simp] theorem State.initNextEntry_p (s : State) :
    (s.initNextEntry).p = s.p := by
  obtain ⟨-, h⟩ | ⟨-, h⟩ := s.initNextEntry_cases <;> rw [h]
@[simp] theorem State.initNextEntry_n (s : State) :
    (s.initNextEntry).n = s.n := by
  obtain ⟨-, h⟩ | ⟨-, h⟩ := s.initNextEntry_cases <;> rw [h]
@[simp] theorem State.initNextEntry_errPending (s : State) :
    (s.initNextEntry).errPending = s.errPending := by
  obtain ⟨-, h⟩ | ⟨-, h⟩ := s.initNextEntry_cases <;> rw [h]
@[simp] theorem State.initNextEntry_opnd (s : State) :
    (s.initNextEntry).opnd = s.opnd := by
  obtain ⟨-, h⟩ | ⟨-, h⟩ := s.initNextEntry_cases <;> rw [h]
@[simp] theorem State.initNextEntry_timer (s : State) :
    (s.initNextEntry).timer = s.timer := by
  obtain ⟨-, h⟩ | ⟨-, h⟩ := s.initNextEntry_cases <;> rw [h]
@[simp] theorem State.initNextEntry_fb (s : State) :
    (s.initNextEntry).fb = s.fb := by
  obtain ⟨-, h⟩ | ⟨-, h⟩ := s.initNextEntry_cases <;> rw [h]
@[simp] theorem State.initNextEntry_log (s : State) :
    (s.initNextEntry).log = s.log := by
  obtain ⟨-, h⟩ | ⟨-, h⟩ := s.initNextEntry_cases <;> rw [h]
@[simp] theorem State.initNextEntry_env (s : State) :
    (s.initNextEntry).env = s.env := by
  obtain ⟨-, h⟩ | ⟨-, h⟩ := s.initNextEntry_cases <;> rw [h]
@[simp] theorem State.initNextEntry_hostProg (s : State) :
    (s.initNextEntry).hostProg = s.hostProg := by
  obtain ⟨-, h⟩ | ⟨-, h⟩ := s.initNextEntry_cases <;> rw [h]
@[simp] theorem State.initNextEntry_resp (s : State) :
    (s.initNextEntry).resp = s.resp := by
  obtain ⟨-, h⟩ | ⟨-, h⟩ := s.initNextEntry_cases <;> rw [h]
@[simp] theorem State.initNextEntry_sched (s : State) :
    (s.initNextEntry).sched = s.sched := by
  obtain ⟨-, h⟩ | ⟨-, h⟩ := s.initNextEntry_cases <;> rw [h]
@[simp] theorem State.initNextEntry_turns (s : State) :
    (s.initNextEntry).turns = s.turns := by
  obtain ⟨-, h⟩ | ⟨-, h⟩ := s.initNextEntry_cases <;> rw [h]
@[simp] theorem State.initNextEntry_hostLeft (s : State) :
    (s.initNextEntry).hostLeft = s.hostLeft := by
  obtain ⟨-, h⟩ | ⟨-, h⟩ := s.initNextEntry_cases <;> rw [h]

/-! `State.initCommand` -/

@[simp] theorem State.initCommand_cfg (s : State) (e : InitEntry) :
    (s.initCommand e).cfg = s.cfg := by
  obtain ⟨t, rfl, ⟨-, -, h⟩ | ⟨-, -, h⟩ | ⟨-, h⟩⟩ := s.initCommand_cases e <;> simp [h]
@[simp] theorem State.initCommand_argVal (s : State) (e : InitEntry) :
    (s.initCommand e).argVal = s.argVal := by
  obtain ⟨t, rfl, ⟨-, -, h⟩ | ⟨-, -, h⟩ | ⟨-, h⟩⟩ := s.initCommand_cases e <;> simp [h]
@[simp] theorem State.initCommand_canvasW (s : State) (e : InitEntry) :
    (s.initCommand e).canvasW = s.canvasW := by
  obtain ⟨t, rfl, ⟨-, -, h⟩ | ⟨-, -, h⟩ | ⟨-, h⟩⟩ := s.initCommand_cases e <;> simp [h]
@[simp] theorem State.initCommand_canvasH (s : State) (e : InitEntry) :
    (s.initCommand e).canvasH = s.canvasH := by
  obtain ⟨t, rfl, ⟨-, -, h⟩ | ⟨-, -, h⟩ | ⟨-, h⟩⟩ := s.initCommand_cases e <;> simp [h]
@[simp] theorem State.initCommand_err (s : State) (e : InitEntry) :
    (s.initCommand e).err = s.err := by
  obtain ⟨t, rfl, ⟨-, -, h⟩ | ⟨-, -, h⟩ | ⟨-, h⟩⟩ := s.initCommand_cases e <;> simp [h]
@[simp] theorem State.initCommand_detail (s : State) (e : InitEntry) :
    (s.initCommand e).detail = s.detail := by
  obtain ⟨t, rfl, ⟨-, -, h⟩ | ⟨-, -, h⟩ | ⟨-, h⟩⟩ := s.initCommand_cases e <;> simp [h]
@[simp] theorem State.initCommand_rej (s : State) (e : InitEntry) :
    (s.initCommand e).rej = s.rej := by
  obtain ⟨t, rfl, ⟨-, -, h⟩ | ⟨-, -, h⟩ | ⟨-, h⟩⟩ := s.initCommand_cases e <;> simp [h]
@[simp] theorem State.initCommand_errinfo (s : State) (e : InitEntry) :
    (s.initCommand e).errinfo = s.errinfo := by
  obtain ⟨t, rfl, ⟨-, -, h⟩ | ⟨-, -, h⟩ | ⟨-, h⟩⟩ := s.initCommand_cases e <;> simp [h]
@[simp] theorem State.initCommand_fsm (s : State) (e : InitEntry) :
    (s.initCommand e).fsm = s.fsm := by
  obtain ⟨t, rfl, ⟨-, -, h⟩ | ⟨-, -, h⟩ | ⟨-, h⟩⟩ := s.initCommand_cases e <;> simp [h]
@[simp] theorem State.initCommand_active (s : State) (e : InitEntry) :
    (s.initCommand e).active = s.active := by
  obtain ⟨t, rfl, ⟨-, -, h⟩ | ⟨-, -, h⟩ | ⟨-, h⟩⟩ := s.initCommand_cases e <;> simp [h]
@[simp] theorem State.initCommand_pwr (s : State) (e : InitEntry) :
    (s.initCommand e).pwr = s.pwr := by
  obtain ⟨t, rfl, ⟨-, -, h⟩ | ⟨-, -, h⟩ | ⟨-, h⟩⟩ := s.initCommand_cases e <;> simp [h]
@[simp] theorem State.initCommand_rst (s : State) (e : InitEntry) :
    (s.initCommand e).rst = s.rst := by
  obtain ⟨t, rfl, ⟨-, -, h⟩ | ⟨-, -, h⟩ | ⟨-, h⟩⟩ := s.initCommand_cases e <;> simp [h]
@[simp] theorem State.initCommand_dc (s : State) (e : InitEntry) :
    (s.initCommand e).dc = s.dc := by
  obtain ⟨t, rfl, ⟨-, -, h⟩ | ⟨-, -, h⟩ | ⟨-, h⟩⟩ := s.initCommand_cases e <;> simp [h]
@[simp] theorem State.initCommand_busOpen (s : State) (e : InitEntry) :
    (s.initCommand e).busOpen = s.busOpen := by
  obtain ⟨t, rfl, ⟨-, -, h⟩ | ⟨-, -, h⟩ | ⟨-, h⟩⟩ := s.initCommand_cases e <;> simp [h]
@[simp] theorem State.initCommand_op (s : State) (e : InitEntry) :
    (s.initCommand e).op = s.op := by
  obtain ⟨t, rfl, ⟨-, -, h⟩ | ⟨-, -, h⟩ | ⟨-, h⟩⟩ := s.initCommand_cases e <;> simp [h]
@[simp] theorem State.initCommand_k (s : State) (e : InitEntry) :
    (s.initCommand e).k = s.k := by
  obtain ⟨t, rfl, ⟨-, -, h⟩ | ⟨-, -, h⟩ | ⟨-, h⟩⟩ := s.initCommand_cases e <;> simp [h]
@[simp] theorem State.initCommand_p (s : State) (e : InitEntry) :
    (s.initCommand e).p = s.p := by
  obtain ⟨t, rfl, ⟨-, -, h⟩ | ⟨-, -, h⟩ | ⟨-, h⟩⟩ := s.initCommand_cases e <;> simp [h]
@[simp] theorem State.initCommand_n (s : State) (e : InitEntry) :
    (s.initCommand e).n = s.n := by
  obtain ⟨t, rfl, ⟨-, -, h⟩ | ⟨-, -, h⟩ | ⟨-, h⟩⟩ := s.initCommand_cases e <;> simp [h]
@[simp] theorem State.initCommand_errPending (s : State) (e : InitEntry) :
    (s.initCommand e).errPending = s.errPending := by
  obtain ⟨t, rfl, ⟨-, -, h⟩ | ⟨-, -, h⟩ | ⟨-, h⟩⟩ := s.initCommand_cases e <;> simp [h]
@[simp] theorem State.initCommand_opnd (s : State) (e : InitEntry) :
    (s.initCommand e).opnd = s.opnd := by
  obtain ⟨t, rfl, ⟨-, -, h⟩ | ⟨-, -, h⟩ | ⟨-, h⟩⟩ := s.initCommand_cases e <;> simp [h]
@[simp] theorem State.initCommand_timer (s : State) (e : InitEntry) :
    (s.initCommand e).timer = s.timer := by
  obtain ⟨t, rfl, ⟨-, -, h⟩ | ⟨-, -, h⟩ | ⟨-, h⟩⟩ := s.initCommand_cases e <;> simp [h]
@[simp] theorem State.initCommand_fb (s : State) (e : InitEntry) :
    (s.initCommand e).fb = s.fb := by
  obtain ⟨t, rfl, ⟨-, -, h⟩ | ⟨-, -, h⟩ | ⟨-, h⟩⟩ := s.initCommand_cases e <;> simp [h]
@[simp] theorem State.initCommand_log (s : State) (e : InitEntry) :
    (s.initCommand e).log = s.log ++ [.write s.dc [e.cmd] (s.env.drawWrite [e.cmd]).1] := by
  obtain ⟨t, rfl, ⟨-, -, h⟩ | ⟨-, -, h⟩ | ⟨-, h⟩⟩ := s.initCommand_cases e <;> simp [h]
@[simp] theorem State.initCommand_env (s : State) (e : InitEntry) :
    (s.initCommand e).env = (s.env.drawWrite [e.cmd]).2 := by
  obtain ⟨t, rfl, ⟨-, -, h⟩ | ⟨-, -, h⟩ | ⟨-, h⟩⟩ := s.initCommand_cases e <;> simp [h]
@[simp] theorem State.initCommand_hostProg (s : State) (e : InitEntry) :
    (s.initCommand e).hostProg = s.hostProg := by
  obtain ⟨t, rfl, ⟨-, -, h⟩ | ⟨-, -, h⟩ | ⟨-, h⟩⟩ := s.initCommand_cases e <;> simp [h]
@[simp] theorem State.initCommand_resp (s : State) (e : InitEntry) :
    (s.initCommand e).resp = s.resp := by
  obtain ⟨t, rfl, ⟨-, -, h⟩ | ⟨-, -, h⟩ | ⟨-, h⟩⟩ := s.initCommand_cases e <;> simp [h]
@[simp] theorem State.initCommand_sched (s : State) (e : InitEntry) :
    (s.initCommand e).sched = s.sched := by
  obtain ⟨t, rfl, ⟨-, -, h⟩ | ⟨-, -, h⟩ | ⟨-, h⟩⟩ := s.initCommand_cases e <;> simp [h]
@[simp] theorem State.initCommand_turns (s : State) (e : InitEntry) :
    (s.initCommand e).turns = s.turns := by
  obtain ⟨t, rfl, ⟨-, -, h⟩ | ⟨-, -, h⟩ | ⟨-, h⟩⟩ := s.initCommand_cases e <;> simp [h]
@[simp] theorem State.initCommand_hostLeft (s : State) (e : InitEntry) :
    (s.initCommand e).hostLeft = s.hostLeft := by
  obtain ⟨t, rfl, ⟨-, -, h⟩ | ⟨-, -, h⟩ | ⟨-, h⟩⟩ := s.initCommand_cases e <;> simp [h]

/-! `State.initData` -/

@[simp] theorem State.initData_cfg (s : State) (e : InitEntry) (b : Byte) :
    (s.initData e b).cfg = s.cfg := by
  obtain ⟨t, rfl, ⟨-, -, h⟩ | ⟨-, -, h⟩ | ⟨-, h⟩⟩ := s.initData_cases e b <;> simp [h]
@[simp] theorem State.initData_argVal (s : State) (e : InitEntry) (b : Byte) :
    (s.initData e b).argVal = s.argVal := by
  obtain ⟨t, rfl, ⟨-, -, h⟩ | ⟨-, -, h⟩ | ⟨-, h⟩⟩ := s.initData_cases e b <;> simp [h]
@[simp] theorem State.initData_canvasW (s : State) (e : InitEntry) (b : Byte) :
    (s.initData e b).canvasW = s.canvasW := by
  obtain ⟨t, rfl, ⟨-, -, h⟩ | ⟨-, -, h⟩ | ⟨-, h⟩⟩ := s.initData_cases e b <;> simp [h]
@[simp] theorem State.initData_canvasH (s : State) (e : InitEntry) (b : Byte) :
    (s.initData e b).canvasH = s.canvasH := by
  obtain ⟨t, rfl, ⟨-, -, h⟩ | ⟨-, -, h⟩ | ⟨-, h⟩⟩ := s.initData_cases e b <;> simp [h]
@[simp] theorem State.initData_err (s : State) (e : InitEntry) (b : Byte) :
    (s.initData e b).err = s.err := by
  obtain ⟨t, rfl, ⟨-, -, h⟩ | ⟨-, -, h⟩ | ⟨-, h⟩⟩ := s.initData_cases e b <;> simp [h]
@[simp] theorem State.initData_detail (s : State) (e : InitEntry) (b : Byte) :
    (s.initData e b).detail = s.detail := by
  obtain ⟨t, rfl, ⟨-, -, h⟩ | ⟨-, -, h⟩ | ⟨-, h⟩⟩ := s.initData_cases e b <;> simp [h]
@[simp] theorem State.initData_rej (s : State) (e : InitEntry) (b : Byte) :
    (s.initData e b).rej = s.rej := by
  obtain ⟨t, rfl, ⟨-, -, h⟩ | ⟨-, -, h⟩ | ⟨-, h⟩⟩ := s.initData_cases e b <;> simp [h]
@[simp] theorem State.initData_errinfo (s : State) (e : InitEntry) (b : Byte) :
    (s.initData e b).errinfo = s.errinfo := by
  obtain ⟨t, rfl, ⟨-, -, h⟩ | ⟨-, -, h⟩ | ⟨-, h⟩⟩ := s.initData_cases e b <;> simp [h]
@[simp] theorem State.initData_fsm (s : State) (e : InitEntry) (b : Byte) :
    (s.initData e b).fsm = s.fsm := by
  obtain ⟨t, rfl, ⟨-, -, h⟩ | ⟨-, -, h⟩ | ⟨-, h⟩⟩ := s.initData_cases e b <;> simp [h]
@[simp] theorem State.initData_active (s : State) (e : InitEntry) (b : Byte) :
    (s.initData e b).active = s.active := by
  obtain ⟨t, rfl, ⟨-, -, h⟩ | ⟨-, -, h⟩ | ⟨-, h⟩⟩ := s.initData_cases e b <;> simp [h]
@[simp] theorem State.initData_pwr (s : State) (e : InitEntry) (b : Byte) :
    (s.initData e b).pwr = s.pwr := by
  obtain ⟨t, rfl, ⟨-, -, h⟩ | ⟨-, -, h⟩ | ⟨-, h⟩⟩ := s.initData_cases e b <;> simp [h]
@[simp] theorem State.initData_rst (s : State) (e : InitEntry) (b : Byte) :
    (s.initData e b).rst = s.rst := by
  obtain ⟨t, rfl, ⟨-, -, h⟩ | ⟨-, -, h⟩ | ⟨-, h⟩⟩ := s.initData_cases e b <;> simp [h]
@[simp] theorem State.initData_dc (s : State) (e : InitEntry) (b : Byte) :
    (s.initData e b).dc = s.dc := by
  obtain ⟨t, rfl, ⟨-, -, h⟩ | ⟨-, -, h⟩ | ⟨-, h⟩⟩ := s.initData_cases e b <;> simp [h]
@[simp] theorem State.initData_busOpen (s : State) (e : InitEntry) (b : Byte) :
    (s.initData e b).busOpen = s.busOpen := by
  obtain ⟨t, rfl, ⟨-, -, h⟩ | ⟨-, -, h⟩ | ⟨-, h⟩⟩ := s.initData_cases e b <;> simp [h]
@[simp] theorem State.initData_op (s : State) (e : InitEntry) (b : Byte) :
    (s.initData e b).op = s.op := by
  obtain ⟨t, rfl, ⟨-, -, h⟩ | ⟨-, -, h⟩ | ⟨-, h⟩⟩ := s.initData_cases e b <;> simp [h]
@[simp] theorem State.initData_k (s : State) (e : InitEntry) (b : Byte) :
    (s.initData e b).k = s.k := by
  obtain ⟨t, rfl, ⟨-, -, h⟩ | ⟨-, -, h⟩ | ⟨-, h⟩⟩ := s.initData_cases e b <;> simp [h]
@[simp] theorem State.initData_p (s : State) (e : InitEntry) (b : Byte) :
    (s.initData e b).p = s.p := by
  obtain ⟨t, rfl, ⟨-, -, h⟩ | ⟨-, -, h⟩ | ⟨-, h⟩⟩ := s.initData_cases e b <;> simp [h]
@[simp] theorem State.initData_n (s : State) (e : InitEntry) (b : Byte) :
    (s.initData e b).n = s.n := by
  obtain ⟨t, rfl, ⟨-, -, h⟩ | ⟨-, -, h⟩ | ⟨-, h⟩⟩ := s.initData_cases e b <;> simp [h]
@[simp] theorem State.initData_errPending (s : State) (e : InitEntry) (b : Byte) :
    (s.initData e b).errPending = s.errPending := by
  obtain ⟨t, rfl, ⟨-, -, h⟩ | ⟨-, -, h⟩ | ⟨-, h⟩⟩ := s.initData_cases e b <;> simp [h]
@[simp] theorem State.initData_opnd (s : State) (e : InitEntry) (b : Byte) :
    (s.initData e b).opnd = s.opnd := by
  obtain ⟨t, rfl, ⟨-, -, h⟩ | ⟨-, -, h⟩ | ⟨-, h⟩⟩ := s.initData_cases e b <;> simp [h]
@[simp] theorem State.initData_timer (s : State) (e : InitEntry) (b : Byte) :
    (s.initData e b).timer = s.timer := by
  obtain ⟨t, rfl, ⟨-, -, h⟩ | ⟨-, -, h⟩ | ⟨-, h⟩⟩ := s.initData_cases e b <;> simp [h]
@[simp] theorem State.initData_fb (s : State) (e : InitEntry) (b : Byte) :
    (s.initData e b).fb = s.fb := by
  obtain ⟨t, rfl, ⟨-, -, h⟩ | ⟨-, -, h⟩ | ⟨-, h⟩⟩ := s.initData_cases e b <;> simp [h]
@[simp] theorem State.initData_log (s : State) (e : InitEntry) (b : Byte) :
    (s.initData e b).log = s.log ++ [.write s.dc [b] (s.env.drawWrite [b]).1] := by
  obtain ⟨t, rfl, ⟨-, -, h⟩ | ⟨-, -, h⟩ | ⟨-, h⟩⟩ := s.initData_cases e b <;> simp [h]
@[simp] theorem State.initData_env (s : State) (e : InitEntry) (b : Byte) :
    (s.initData e b).env = (s.env.drawWrite [b]).2 := by
  obtain ⟨t, rfl, ⟨-, -, h⟩ | ⟨-, -, h⟩ | ⟨-, h⟩⟩ := s.initData_cases e b <;> simp [h]
@[simp] theorem State.initData_hostProg (s : State) (e : InitEntry) (b : Byte) :
    (s.initData e b).hostProg = s.hostProg := by
  obtain ⟨t, rfl, ⟨-, -, h⟩ | ⟨-, -, h⟩ | ⟨-, h⟩⟩ := s.initData_cases e b <;> simp [h]
@[simp] theorem State.initData_resp (s : State) (e : InitEntry) (b : Byte) :
    (s.initData e b).resp = s.resp := by
  obtain ⟨t, rfl, ⟨-, -, h⟩ | ⟨-, -, h⟩ | ⟨-, h⟩⟩ := s.initData_cases e b <;> simp [h]
@[simp] theorem State.initData_sched (s : State) (e : InitEntry) (b : Byte) :
    (s.initData e b).sched = s.sched := by
  obtain ⟨t, rfl, ⟨-, -, h⟩ | ⟨-, -, h⟩ | ⟨-, h⟩⟩ := s.initData_cases e b <;> simp [h]
@[simp] theorem State.initData_turns (s : State) (e : InitEntry) (b : Byte) :
    (s.initData e b).turns = s.turns := by
  obtain ⟨t, rfl, ⟨-, -, h⟩ | ⟨-, -, h⟩ | ⟨-, h⟩⟩ := s.initData_cases e b <;> simp [h]
@[simp] theorem State.initData_hostLeft (s : State) (e : InitEntry) (b : Byte) :
    (s.initData e b).hostLeft = s.hostLeft := by
  obtain ⟨t, rfl, ⟨-, -, h⟩ | ⟨-, -, h⟩ | ⟨-, h⟩⟩ := s.initData_cases e b <;> simp [h]

end Sys2Proof.Machine
end

