-- ==== Sys2Proof/Laws/Safety.lean ====
section
/-! SUPPORT. Lemmas about the invariant's parts: how it is rebuilt when an operation goes on or ends, and where the
shared sequences leave the sequencer. -/

namespace Sys2Proof.Machine

theorem State.sessionLive_congr {s t : State} (h : t.fsm = s.fsm) : t.sessionLive = s.sessionLive := by
  unfold State.sessionLive
  rw [h]

theorem State.tearingDown_sleep {s : State} (h : s.tearingDown) : decodeOpc s.op = .sleep := h.2.1

/-- A configured timeout is at least one sample (R7). -/
theorem configOk_timeout {c : Config} (h : configOk c = true) {limit : Nat} (hl : c.busyTimeoutPolls = some limit) :
    0 < limit := by
  simp only [configOk, hl, Bool.and_eq_true, decide_eq_true_eq] at h
  omega

/-- The init table has an entry for every index of the sequencer (R97). -/
theorem configOk_entry {c : Config} (h : configOk c = true) {i : Nat} (hi : i < initTableLen) :
    ∃ e, c.initTable[i]? = some e := by
  simp only [configOk, Bool.and_eq_true, beq_iff_eq] at h
  have hl : c.initTable.length = initTableLen := h.1.1.1.1.1.2
  exact ⟨c.initTable[i]'(by omega), List.getElem?_eq_getElem _⟩

/-- An operation goes on (not SLEEP): the session, the flags, the framebuffer and the configuration stay, the counters
stay in bounds, and the new position is good. -/
theorem State.Inv.goesOn {s t : State} (hi : s.Inv) (ha : s.active = true) (hs : decodeOpc s.op ≠ .sleep)
    (hcfg : t.cfg = s.cfg) (hfb : t.fb = s.fb) (herr : t.err = s.err) (hdet : t.detail = s.detail)
    (hinfo : t.errinfo = s.errinfo) (hidx : t.i < initTableLen) (hk : t.k < frameBytes) (hp : t.p < npix)
    (hn : ∀ limit, s.cfg.busyTimeoutPolls = some limit → t.n ≤ limit)
    (hfsm : t.fsm = s.fsm) (hpwr : t.pwr = s.pwr) (hrst : s.fsm = .idle → t.rst = s.rst)
    (hdc : s.sessionLive = false → t.rst = s.rst ∧ t.dc = s.dc) (hbus : t.busOpen = s.busOpen)
    (hpos : positionOk t) : t.Inv := by
  have hl := State.sessionLive_congr hfsm
  obtain ⟨e1, e2, e3⟩ := hi.flags.clearWhileActive ha
  refine ⟨by rw [hcfg]; exact hi.config, by rw [hfb]; exact hi.memory, ⟨?_, ?_, ?_, ?_⟩,
    ⟨hidx, hk, hp, by rw [hcfg]; exact hn⟩, ⟨?_, ?_, ?_⟩, fun _ => hpos⟩
  · exact fun _ => ⟨herr.trans e1, hdet.trans e2, hinfo.trans e3⟩
  · exact fun _ => hdet.trans e2
  · exact fun _ => hinfo.trans e3
  · rw [hinfo]; exact hi.flags.errinfoBound
  · intro h
    rw [hl] at h
    obtain ⟨a, b, c, d⟩ := hi.session.released h
    exact ⟨hpwr.trans a, (hdc h).1.trans b, (hdc h).2.trans c, hbus.trans d⟩
  · intro h
    rw [hl] at h
    exact (hi.session.powered h).imp hpwr.trans fun h => absurd h.2.1 hs
  · intro h
    rw [hfsm] at h
    exact (hi.session.opened h).imp (fun x => ⟨hbus.trans x.1, (hrst h).trans x.2⟩) fun h => absurd h.2.1 hs

/-- An operation ends (not SLEEP's own end): everything stays but the flags, which are as R220 and R221 allow. -/
theorem State.Inv.ends {s t : State} (hi : s.Inv) (ht : ¬ s.tearingDown)
    (hcfg : t.cfg = s.cfg) (hfb : t.fb = s.fb) (hdet : t.err ≠ .busIOFailure → t.detail = 0#2)
    (hinfo : t.err ≠ .paletteMismatch → t.errinfo = 0#19) (hbound : t.errinfo.toNat < npix)
    (hidx : t.i = s.i) (hk : t.k = s.k) (hp : t.p < npix) (hn : t.n = s.n) (hact : t.active = false)
    (hfsm : t.fsm = s.fsm) (hpwr : t.pwr = s.pwr) (hrst : t.rst = s.rst) (hdc : t.dc = s.dc)
    (hbus : t.busOpen = s.busOpen) : t.Inv := by
  have hl := State.sessionLive_congr hfsm
  refine ⟨by rw [hcfg]; exact hi.config, by rw [hfb]; exact hi.memory, ⟨?_, hdet, hinfo, hbound⟩,
    ⟨by rw [hidx]; exact hi.counters.entry, by rw [hk]; exact hi.counters.pair, hp,
      by rw [hcfg, hn]; exact hi.counters.samples⟩, ⟨?_, ?_, ?_⟩, ?_⟩
  · intro h
    rw [hact] at h
    cases h
  · intro h
    rw [hl] at h
    obtain ⟨a, b, c, d⟩ := hi.session.released h
    exact ⟨hpwr.trans a, hrst.trans b, hdc.trans c, hbus.trans d⟩
  · intro h
    rw [hl] at h
    exact (hi.session.powered h).imp hpwr.trans fun h => absurd h ht
  · intro h
    rw [hfsm] at h
    exact (hi.session.opened h).imp (fun x => ⟨hbus.trans x.1, hrst.trans x.2⟩) fun h => absurd h ht
  · intro h
    rw [hact] at h
    cases h

/-- A raise that no event precedes in its step, or that a failed primitive reached, keeps the invariant. -/
theorem State.Inv.raise {s : State} (hi : s.Inv) (ha : s.active = true) (ht : ¬ s.tearingDown) (e : Err) (d : BitVec 2)
    (hd : e ≠ .busIOFailure → d = 0#2) : (s.raise e d).Inv :=
  hi.ends ht rfl rfl hd (fun _ => (hi.flags.clearWhileActive ha).2.2) hi.flags.errinfoBound rfl rfl
    hi.counters.pixel rfl rfl rfl rfl rfl rfl rfl

/-- A completion keeps the invariant. -/
theorem State.Inv.complete {s : State} (hi : s.Inv) (ht : ¬ s.tearingDown) : s.complete.Inv :=
  hi.ends ht rfl rfl hi.flags.detailOnlyBus hi.flags.errinfoOnlyPalette hi.flags.errinfoBound rfl rfl
    hi.counters.pixel rfl rfl rfl rfl rfl rfl rfl

/-- Where a sample step leaves the sequencer: at the exit, at the delay with a sample left, or at the timeout. -/
theorem State.pollStep_position {s : State} {wait exit : Pc}
    (hn : ∀ limit, s.cfg.busyTimeoutPolls = some limit → s.n < limit) :
    (∀ limit, s.cfg.busyTimeoutPolls = some limit → (s.pollStep wait exit).n ≤ limit) ∧
      ((s.pollStep wait exit).pc = exit ∨
       ((s.pollStep wait exit).pc = wait ∧ (s.pollStep wait exit).samplesLeft) ∨
       (s.pollStep wait exit).pc = .abort .busIOFailure busyTimeout) := by
  obtain ⟨m, q, h, hc⟩ := s.pollStep_cases wait exit
  rw [h]
  obtain ⟨-, rfl, rfl⟩ | ⟨-, ⟨hl, rfl, rfl⟩ | ⟨limit, hl, rfl, ⟨hle, rfl⟩ | ⟨hlt, rfl⟩⟩⟩ := hc
  · exact ⟨fun l h => (hn l h).le, .inl rfl⟩
  · exact ⟨fun l h => (hn l h).le, .inr (.inl ⟨rfl, fun l h => hn l h⟩)⟩
  · refine ⟨fun l h => ?_, .inr (.inr rfl)⟩
    have := hn l h
    dsimp only
    omega
  · have hw : ∀ l, s.cfg.busyTimeoutPolls = some l → s.n + 1 < l := by
      intro l h
      rw [hl] at h
      cases h
      exact hlt
    exact ⟨fun l h => (hw l h).le, .inr (.inl ⟨rfl, hw⟩)⟩

/-- A step of Refresh() from a good position goes to a good position, or to the raise of a failed primitive with the bus
open, or completes the operation. -/
theorem handshakeStep_position {s t : State} {n : Nat} (hk : handshakeOk s n)
    (ht : ∀ limit, s.cfg.busyTimeoutPolls = some limit → 0 < limit) (h : handshakeStep s n = .next t) :
    t = s.complete ∨ (∃ m, t.pc = .handshake m ∧ handshakeOk t m) ∨
      (∃ d, t.pc = .abort .busIOFailure d ∧ (d = writeFailed ∨ d = busyTimeout) ∧ t.busOpen = true) := by
  obtain ⟨hle, hb, -, -, hs⟩ := hk
  have line : ∀ (l : Level) (m : Nat), m ≤ 19 → (m = 1 ∨ m = 6 ∨ m = 13 → l = false) → (m = 8 ∨ m = 15 → l = true) →
      ¬ (m = 3 ∨ m = 4 ∨ m = 10 ∨ m = 11 ∨ m = 17 ∨ m = 18) → t = (s.setLine .dc l).goto (.handshake m) →
      ∃ m, t.pc = .handshake m ∧ handshakeOk t m := by
    rintro l m h1 h2 h3 h4 rfl
    exact ⟨m, rfl, h1, by simpa using hb, by simpa using h2, by simpa using h3, fun h => absurd h h4⟩
  have send : ∀ (bytes : List Byte) (m : Nat), m ≤ 19 → ¬ (m = 1 ∨ m = 6 ∨ m = 13) → ¬ (m = 8 ∨ m = 15) →
      ¬ (m = 3 ∨ m = 4 ∨ m = 10 ∨ m = 11 ∨ m = 17 ∨ m = 18) → t = s.sendStep bytes (.handshake m) →
      (∃ m, t.pc = .handshake m ∧ handshakeOk t m) ∨
      (∃ d, t.pc = .abort .busIOFailure d ∧ (d = writeFailed ∨ d = busyTimeout) ∧ t.busOpen = true) := by
    rintro bytes m h1 h2 h3 h4 rfl
    cases hw : (s.env.drawWrite bytes).1
    · exact .inr ⟨writeFailed, by simp [hw], .inl rfl, by simpa using hb⟩
    · exact .inl ⟨m, by simp [hw], h1, by simpa using hb, fun h => absurd h h2, fun h => absurd h h3,
        fun h => absurd h h4⟩
  have poll : ∀ (u : State) (w x : Nat), w ≤ 19 → x ≤ 19 → ¬ (w = 1 ∨ w = 6 ∨ w = 13) → ¬ (w = 8 ∨ w = 15) →
      ¬ (x = 1 ∨ x = 6 ∨ x = 13) → ¬ (x = 8 ∨ x = 15) →
      ¬ (x = 3 ∨ x = 4 ∨ x = 10 ∨ x = 11 ∨ x = 17 ∨ x = 18) → u.busOpen = true → u.samplesLeft →
      t = u.pollStep (.handshake w) (.handshake x) →
      (∃ m, t.pc = .handshake m ∧ handshakeOk t m) ∨
      (∃ d, t.pc = .abort .busIOFailure d ∧ (d = writeFailed ∨ d = busyTimeout) ∧ t.busOpen = true) := by
    rintro u w x h1 h2 h3 h4 h5 h6 h7 hu hn rfl
    obtain ⟨-, hx | ⟨hx, hl⟩ | hx⟩ := State.pollStep_position (wait := .handshake w) (exit := .handshake x) hn
    · exact .inl ⟨x, hx, h2, by simpa using hu, fun h => absurd h h5, fun h => absurd h h6, fun h => absurd h h7⟩
    · exact .inl ⟨w, hx, h1, by simpa using hu, fun h => absurd h h3, fun h => absurd h h4, fun _ => hl⟩
    · exact .inr ⟨busyTimeout, hx, .inr rfl, by simpa using hu⟩
  have wait : ∀ m : Nat, m ≤ 19 → ¬ (m = 1 ∨ m = 6 ∨ m = 13) → ¬ (m = 8 ∨ m = 15) → s.samplesLeft →
      t = s.pollWait (.handshake m) → ∃ m, t.pc = .handshake m ∧ handshakeOk t m := by
    rintro m h1 h2 h3 hl rfl
    exact ⟨m, rfl, h1, by simpa using hb, fun h => absurd h h2, fun h => absurd h h3, fun _ => hl⟩
  unfold handshakeStep at h
  split at h
  case h_1 | h_6 | h_8 | h_13 | h_15 =>
    exact .inr (.inl (line _ _ (by omega) (by simp) (by simp) (by omega) (Host.Outcome.next.inj h).symm))
  case h_2 | h_7 | h_9 | h_14 | h_16 =>
    exact .inr (send _ _ (by omega) (by omega) (by omega) (by omega) (Host.Outcome.next.inj h).symm)
  case h_3 | h_10 | h_17 =>
    exact .inr (poll { s with n := 0 } _ _ (by omega) (by omega) (by omega) (by omega) (by omega) (by omega)
      (by omega) hb ht (Host.Outcome.next.inj h).symm)
  case h_4 | h_11 | h_18 =>
    exact .inr (.inl (wait _ (by omega) (by omega) (by omega) (hs (by omega)) (Host.Outcome.next.inj h).symm))
  case h_5 | h_12 | h_19 =>
    exact .inr (poll s _ _ (by omega) (by omega) (by omega) (by omega) (by omega) (by omega) (by omega) hb
      (hs (by omega)) (Host.Outcome.next.inj h).symm)
  case h_20 => exact .inl (Host.Outcome.next.inj h).symm
  case h_21 => cases h

/-- A step of Refresh() touches nothing but DC, the position, the busy count, the timer, the log, the panel's answers,
and, when it completes the operation, ACTIVE. -/
theorem handshakeStep_frame {s t : State} {n : Nat} (h : handshakeStep s n = .next t) :
    ∃ dc pc m timer log env active,
      t = { s with dc := dc, pc := pc, n := m, timer := timer, log := log, env := env, active := active } := by
  have poll : ∀ (u : State) (w x : Pc), (∃ m, u = { s with n := m }) → t = u.pollStep w x →
      ∃ dc pc m timer log env active,
        t = { s with dc := dc, pc := pc, n := m, timer := timer, log := log, env := env, active := active } := by
    rintro _ w x ⟨k, rfl⟩ rfl
    obtain ⟨m, q, h, -⟩ := State.pollStep_cases { s with n := k } w x
    exact ⟨_, _, _, _, _, _, _, h⟩
  unfold handshakeStep at h
  split at h
  case h_3 | h_10 | h_17 => exact poll _ _ _ ⟨0, rfl⟩ (Host.Outcome.next.inj h).symm
  case h_5 | h_12 | h_19 => exact poll s _ _ ⟨s.n, rfl⟩ (Host.Outcome.next.inj h).symm
  case h_2 | h_7 | h_9 | h_14 | h_16 =>
    obtain rfl := Host.Outcome.next.inj h
    exact ⟨_, _, _, _, _, _, _, State.sendStep_eq _ _ _⟩
  case h_21 => cases h
  all_goals
    obtain rfl := Host.Outcome.next.inj h
    exact ⟨_, _, _, _, _, _, _, rfl⟩

end Sys2Proof.Machine
end

