-- ==== Sys2Proof/Laws/Step.lean ====
section
/-! SUPPORT. What one step of the machine can be (one inversion lemma), and what the host's step does to the DPC. -/

namespace Sys2Proof.Machine

theorem State.hostStep_nil {s : State} (h : s.hostProg = []) : s.hostStep = s := by
  simp [State.hostStep, h]

/-- Taking the next turn moves the schedule and the counts of free turns, and nothing else. -/
theorem State.turnTaken_frame (s : State) :
    ∃ sc tu hl, s.turnTaken = { s with sched := sc, turns := tu, hostLeft := hl } := by
  unfold State.turnTaken
  split
  · exact ⟨_, _, _, rfl⟩
  · split
    · split
      · exact ⟨_, _, _, rfl⟩
      · exact ⟨_, _, _, rfl⟩
    · exact ⟨_, _, _, rfl⟩

@[simp] theorem State.turnTaken_cons {s : State} {turn : Turn} {rest : List Turn} (h : s.sched = turn :: rest) :
    s.turnTaken = { s with sched := rest } := by
  simp [State.turnTaken, h]

/-- The block reset moves exactly at a turn of its own. -/
theorem State.mover_blockReset {s : State} {contents : List Host.Cell} :
    s.mover = .blockReset contents ↔ ∃ rest, s.sched = .blockReset contents :: rest := by
  unfold State.mover
  rcases s.sched with _ | ⟨_ | _ | c, rest⟩ <;> dsimp only
  case nil | cons.host | cons.dpc =>
    split <;> simp
  case cons.blockReset => simp

/-- The sequencer moves only while an operation is active. -/
theorem State.mover_sequencer {s : State} (h : s.mover = .sequencer) : s.active = true := by
  unfold State.mover at h
  split at h
  · cases h
  all_goals
    split at h
    · simp_all
    · cases h

/-- Past the end of the schedule with both able to move, a step that is not the sequencer's is one of the host's steps
before it, and leaves one fewer of them. -/
theorem State.mover_host_past_end {s : State} (hs : s.sched = []) (ha : s.active = true) (hm : s.mover = .host) :
    s.hostProg ≠ [] ∧ ∃ left, s.hostTurns = left + 1 ∧ s.turnTaken = { s with hostLeft := some left } := by
  unfold State.mover at hm
  simp only [hs, ha, Bool.true_and] at hm
  split at hm
  · cases hm
  · rename_i h
    simp only [Bool.or_eq_true, List.isEmpty_iff, beq_iff_eq, not_or] at h
    obtain ⟨left, hl⟩ := Nat.exists_eq_succ_of_ne_zero h.2
    refine ⟨h.1, left, hl, ?_⟩
    unfold State.turnTaken
    simp [hs, ha, h.1, hl]

/-- A step is a block reset, a step of the active operation, or a step of the host (which does nothing when it has no
access left), each after the turn is taken. -/
theorem step_cases {s t : State} (h : step s = .next t) :
    (∃ contents rest, s.sched = .blockReset contents :: rest ∧ t = { s with sched := rest }.blockReset contents) ∨
      (s.mover = .sequencer ∧ s.active = true ∧ exec (decodeOpc s.op) s.turnTaken = .next t) ∨
      (s.mover = .host ∧ t = s.turnTaken.hostStep) := by
  unfold step State.agentStep at h
  split at h
  · rename_i hm
    obtain ⟨sc, tu, hl, he⟩ := s.turnTaken_frame
    refine .inr (.inl ⟨hm, State.mover_sequencer hm, ?_⟩)
    rw [he] at h ⊢
    exact h
  · exact .inr (.inr ⟨‹_›, (Host.Outcome.next.inj h).symm⟩)
  · rename_i contents hm
    obtain ⟨rest, hs⟩ := State.mover_blockReset.mp hm
    exact .inl ⟨contents, rest, hs, by rw [State.turnTaken_cons hs] at h; exact (Host.Outcome.next.inj h).symm⟩

/-- What a host write of a legal target can do: drop it, issue an operation, store, or clear REJ (R23 to R29). -/
theorem State.writeTarget_cases (s : State) (t : Target) (n : Nat) (v : Word) :
    (s.active = true ∧ s.writeTarget t n v = { s with rej := true }) ∨
      s.writeTarget t n v = s ∨ s.writeTarget t n v = { s with rej := false } ∨
      (s.active = false ∧
        (s.writeTarget t n v = s.issue v ∨
         (∃ b, s.writeTarget t n v = { s with argVal := b }) ∨
         (∃ w g, s.writeTarget t n v = { s with canvasW := w, canvasH := g }) ∨
         (∃ a, t = .fb a ∧ s.writeTarget t n v = { s with fb := Memory.writeBytes s.fb a v n }))) := by
  cases ha : s.active <;> cases t <;> simp only [State.writeTarget, State.unlessActive, ha]
  case false.op => exact .inr (.inr (.inr ⟨trivial, .inl rfl⟩))
  case false.arg => exact .inr (.inr (.inr ⟨trivial, .inr (.inl ⟨_, rfl⟩)⟩))
  case false.canvas => exact .inr (.inr (.inr ⟨trivial, .inr (.inr (.inl ⟨_, _, rfl⟩))⟩))
  case false.fb a => exact .inr (.inr (.inr ⟨trivial, .inr (.inr (.inr ⟨a, rfl, rfl⟩))⟩))
  case false.errinfo => exact .inr (.inl trivial)
  case true.errinfo => exact .inr (.inl trivial)
  case false.status | true.status =>
    split
    · exact .inr (.inr (.inl rfl))
    · exact .inr (.inl rfl)
  all_goals exact .inl ⟨trivial, rfl⟩

/-- A read of STATUS draws a BUSY_IN answer; no read touches anything else of the environment. -/
theorem State.readTarget_env (s : State) (t : Target) (n : Nat) :
    ∃ l k, (s.readTarget t n).2 = { s.env with busyIns := l, nBusyIn := k } := by
  cases t <;> try exact ⟨s.env.busyIns, s.env.nBusyIn, rfl⟩
  simp only [State.readTarget, Env.drawBusyIn]
  split
  · exact ⟨_, s.env.nBusyIn, rfl⟩
  · exact ⟨s.env.busyIns, _, rfl⟩

/-- A framebuffer target of a legal access lies inside the framebuffer (R62). -/
theorem hostTarget_fb {off n a : Nat} (h : hostTarget off n = some (.fb a)) : a + n ≤ npix := by
  unfold hostTarget at h
  split_ifs at h with h1 h2 h3 h4 h5 h6 <;> simp only [Option.some.injEq, Target.fb.injEq, reduceCtorEq] at h
  have hw : fbWindowEnd = 0xDDC00 := rfl
  have hp : npix = 384000 := rfl
  omega

/-- What the host's step can do: a write with some answer, or a read or a fault, which touch nothing but the answer, the
host's program and the BUSY_IN answers. -/
theorem State.hostStep_cases (s : State) :
    (∃ t n v r rest, (∀ a, t = .fb a → a + n ≤ npix) ∧
        s.hostStep = { s.writeTarget t n v with resp := r, hostProg := rest }) ∨
      (∃ l k r rest, s.hostStep =
        { s with env := { s.env with busyIns := l, nBusyIn := k }, resp := r, hostProg := rest }) := by
  unfold State.hostStep
  split
  · rename_i h
    exact .inr ⟨s.env.busyIns, s.env.nBusyIn, s.resp, s.hostProg, rfl⟩
  · rename_i addr n v rest _
    unfold State.hostWrite
    split
    · exact .inr ⟨s.env.busyIns, s.env.nBusyIn, _, rest, rfl⟩
    · split
      · exact .inr ⟨s.env.busyIns, s.env.nBusyIn, _, rest, rfl⟩
      · rename_i off _ _ t ht
        exact .inl ⟨t, n, v, _, rest, fun a ha => hostTarget_fb (ha ▸ ht), rfl⟩
  · rename_i addr n rest _
    unfold State.hostRead
    split
    · exact .inr ⟨s.env.busyIns, s.env.nBusyIn, _, rest, rfl⟩
    · split
      · exact .inr ⟨s.env.busyIns, s.env.nBusyIn, _, rest, rfl⟩
      · rename_i t ht
        obtain ⟨l, k, he⟩ := s.readTarget_env t n
        generalize s.readTarget t n = r at he
        obtain ⟨w, e⟩ := r
        dsimp only at he ⊢
        subst he
        exact .inr ⟨l, k, _, rest, rfl⟩
  · rename_i rest _
    obtain ⟨l, k, he⟩ := s.readTarget_env .status 4
    generalize s.readTarget .status 4 = r at he
    obtain ⟨w, e⟩ := r
    dsimp only at he ⊢
    subst he
    split
    · exact .inr ⟨l, k, _, s.hostProg, rfl⟩
    · exact .inr ⟨l, k, _, rest, rfl⟩

end Sys2Proof.Machine
end

