-- ==== Sys2Proof/Tests/Slice0.lean ====
section
/-! SUPPORT. Tests: the well-formedness check, decoding of words written out from 30_encoding.md, single steps from the
vectors of 95_test_vectors.md, and one witness per statement that its hypotheses can be met together. -/

namespace Sys2Proof.Tests

open Sys2Proof Sys2Proof.Machine Host

/-! ## Well-formedness -/

theorem test_wf_refuses_a_code_of_another_row :
    (Instr.illegal 0x1#4).wf = false ∧ (Instr.illegal 0x8#4).wf = false := by decide

theorem test_wf_accepts_the_rows :
    (Instr.illegal 0x0#4).wf = true ∧ (Instr.illegal 0x9#4).wf = true ∧ (Instr.illegal 0xF#4).wf = true ∧
      Instr.init.wf = true ∧ Instr.sleep.wf = true := by decide

/-! ## Decoding: words written out bit by bit from R90 and R91 (bits 3:0 the code, bits 31:4 ignored) -/

theorem test_decode_init :
    decodeBytes [0b00000001#8, 0b00000000#8, 0b00000000#8, 0b00000000#8] = .ok (.init, []) := by decide
theorem test_decode_cmd :
    decodeBytes [0b00000010#8, 0b00000000#8, 0b00000000#8, 0b00000000#8] = .ok (.cmd, []) := by decide
theorem test_decode_data :
    decodeBytes [0b00000011#8, 0b00000000#8, 0b00000000#8, 0b00000000#8] = .ok (.data, []) := by decide
theorem test_decode_waitIdle :
    decodeBytes [0b00000100#8, 0b00000000#8, 0b00000000#8, 0b00000000#8] = .ok (.waitIdle, []) := by decide
theorem test_decode_render :
    decodeBytes [0b00000101#8, 0b00000000#8, 0b00000000#8, 0b00000000#8] = .ok (.render, []) := by decide
theorem test_decode_refresh :
    decodeBytes [0b00000110#8, 0b00000000#8, 0b00000000#8, 0b00000000#8] = .ok (.refresh, []) := by decide
theorem test_decode_clear :
    decodeBytes [0b00000111#8, 0b00000000#8, 0b00000000#8, 0b00000000#8] = .ok (.clear, []) := by decide
theorem test_decode_sleep :
    decodeBytes [0b00001000#8, 0b00000000#8, 0b00000000#8, 0b00000000#8] = .ok (.sleep, []) := by decide
theorem test_decode_reserved :
    decodeBytes [0b00000000#8, 0b00000000#8, 0b00000000#8, 0b00000000#8] = .ok (.illegal 0x0#4, []) ∧
      decodeBytes [0b00001001#8, 0b00000000#8, 0b00000000#8, 0b00000000#8] = .ok (.illegal 0x9#4, []) ∧
      decodeBytes [0b00001111#8, 0b00000000#8, 0b00000000#8, 0b00000000#8] = .ok (.illegal 0xF#4, []) := by decide

/-- V-HO3: bits 31:4 are ignored; and what follows the word is left over. -/
theorem test_decode_ignores_high_bits :
    decodeBytes [0b11110001#8, 0b11111111#8, 0b11111111#8, 0b11111111#8, 0xAB#8] = .ok (.init, [0xAB#8]) := by decide

theorem test_decode_too_short : decodeBytes [0x01#8, 0x00#8, 0x00#8] = .error .tooShort := by decide

/-- The table of encodings in 95_test_vectors.md §3: `wr OP, 0x5` is 05 00 00 00. -/
theorem test_encode_render : leBytes (encode .render) = [0x05#8, 0x00#8, 0x00#8, 0x00#8] := by decide

/-! ## Small states -/

/-- Every answer listed and good (E_good, for as many answers as a test takes). -/
def goodEnv : Env := ⟨[true], List.replicate 70 true, List.replicate 4 true, [true], 0, 0, 0, 0⟩

/-- S_IDLE after a successful INIT: the lines and the bus up. -/
def idleState : State :=
  { State.reset with fsm := .idle, pwr := true, rst := true, dc := true, busOpen := true, env := goodEnv }

/-- An operation running in the session of `idleState`. -/
def runAt (opc : BitVec 4) (pc : Pc) : State := { idleState with active := true, op := opc, pc := pc }

/-- An operation just issued with no session and the bus closed. -/
def issuedAtReset (opc : BitVec 4) : State := { State.reset with active := true, op := opc, env := goodEnv }

/-- The next answers of the panel to writes are these. -/
def withWrites (s : State) (writes : List Bool) : State := { s with env := { s.env with writes := writes } }

/-- The next samples of the busy input are these. -/
def withPolls (s : State) (polls : List Level) : State := { s with env := { s.env with polls := polls } }

/-- The events that one step of an operation appends. -/
def logOf (i : Instr) (s : State) : List Event :=
  match exec i s with
  | .next t => t.log
  | .fault _ | .refused _ => []

/-- STATUS after one step of an operation, with the busy input at 1. -/
def statusOf (i : Instr) (s : State) : Word :=
  match exec i s with
  | .next t => t.statusWord true
  | .fault _ | .refused _ => 0xFFFFFFFF#32

/-! ## Single steps, from 95_test_vectors.md -/

/-- V-HO1: ILLEGAL appends Done(5, 0); STATUS = 0x00100050. -/
theorem test_illegal :
    logOf (.illegal 0x0#4) (issuedAtReset 0x0#4) = [.done .illegalOp 0#2] ∧
      statusOf (.illegal 0x0#4) (issuedAtReset 0x0#4) = 0x00100050#32 := by decide

/-- R160, R161: the first event of INIT is Line(PWR, 1). -/
theorem test_init_powers_up : logOf .init (issuedAtReset 0x1#4) = [.line .pwr true] := by decide

/-- R166, R98: the second data byte of entry 12 of the default table is 0x20, sent with DC = 1. -/
theorem test_init_sends_a_data_byte :
    logOf .init { runAt 0x1#4 (.rule 15) with fsm := .poweredUp, i := 12, j := 1 } = [.write true [0x20#8] true] := by decide

/-- V-RO1: CMD of 0x04 writes 0x04 with DC = 0. -/
theorem test_cmd_writes :
    logOf .cmd { runAt 0x2#4 (.rule 1) with opnd := 0x04#8, dc := false } = [.write false [0x04#8] true] := by decide

/-- V-RO4: CMD with the bus closed: STATUS = 0x00100230. -/
theorem test_cmd_closed : statusOf .cmd (issuedAtReset 0x2#4) = 0x00100230#32 := by decide

/-- V-RO2: DATA of 0xFF raises DC first. -/
theorem test_data_raises_dc : logOf .data { runAt 0x3#4 (.rule 0) with argVal := 0xFF#8 } = [.line .dc true] := by decide

/-- V-RO2: then it writes 0xFF with DC = 1. -/
theorem test_data_writes :
    logOf .data { runAt 0x3#4 (.rule 1) with opnd := 0xFF#8, dc := true } = [.write true [0xFF#8] true] := by decide

/-- V-RO6: WAIT_IDLE samples first. -/
theorem test_waitIdle_samples : logOf .waitIdle (withPolls (runAt 0x4#4 (.rule 0)) [false]) = [.poll false] := by decide

/-- V-RO6: a busy sample is followed by a delay of 5 ms. -/
theorem test_waitIdle_delays : logOf .waitIdle (runAt 0x4#4 (.rule 1)) = [.delay 5] := by decide

/-- V-FR2: RENDER of 799×480 raises DimensionMismatch: program P3 then reads 0x001F0012. -/
theorem test_render_rejects_799 :
    statusOf .render { runAt 0x5#4 (.rule 0) with canvasW := 0x031F#16, canvasH := 0x01E0#16 } = 0x001F0012#32 := by decide

/-- Two invalid cells, 5 and 10. -/
def badCells : State :=
  { runAt 0x5#4 (.rule 0) with canvasW := 800#16, canvasH := 480#16, fb := [(5, 9#8), (10, 7#8)] }

/-- V-FR7: the lowest invalid cell is recorded. -/
theorem test_render_records_the_lowest_cell :
    ∃ t, exec .render badCells = .next t ∧ t.errinfoWord = 5#32 ∧ t.err = .paletteMismatch ∧
      t.log = [.done .paletteMismatch 0#2] := by
  have h : firstInvalidCell badCells.fb = some 5 := firstInvalidCell_some.mpr ⟨by decide, by decide, by decide⟩
  have hc : badCells.canvasMatches = true := by decide
  refine ⟨{ badCells with p := 5, errinfo := 5#19 }.raise .paletteMismatch 0#2, ?_, by decide, by decide, by decide⟩
  unfold exec execRender
  rw [show badCells.pc = .rule 0 from rfl]
  simp only [hc, if_true]
  rw [State.validated_bad h]

/-- V-FR14: the first event of REFRESH is Line(DC, 0). -/
theorem test_refresh_lowers_dc : logOf .refresh (runAt 0x6#4 (.rule 0)) = [.line .dc false] := by decide

/-- R197: the second write of the handshake is CMD_REFRESH. -/
theorem test_refresh_second_command : logOf .refresh { runAt 0x6#4 (.handshake 6) with dc := false } = [.write false [0x12#8] true] := by
  decide

/-- V-FR20: CLEAR of 7 raises PaletteMismatch. -/
theorem test_clear_rejects_7 :
    logOf .clear { runAt 0x7#4 (.rule 0) with argVal := 7#8 } = [.done .paletteMismatch 0#2] := by decide

/-- V-FR23: CLEAR with the bus closed raises NOT_OPEN. -/
theorem test_clear_closed :
    logOf .clear { issuedAtReset 0x7#4 with argVal := 1#8 } = [.done .busIOFailure 2#2] := by decide

/-- V-SL5: a second SLEEP is a SequenceError: STATUS = 0x00100044. -/
theorem test_sleep_twice : statusOf .sleep { issuedAtReset 0x8#4 with fsm := .asleep } = 0x00100044#32 := by decide

/-- V-SL3: SLEEP's deferred failure is reported in the last step: STATUS = 0x00100134. -/
theorem test_sleep_deferred_failure :
    statusOf .sleep { issuedAtReset 0x8#4 with fsm := .idle, pc := .rule 9, errPending := true } = 0x00100134#32 := by
  decide

/-! ## Host port and reset -/

/-- V-HO10: the last four cells. -/
theorem test_host_write_fb :
    ((State.reset.hostWrite 0xDDBFC 4 0x06050403#32).fb) =
      [(383996, 3#8), (383997, 4#8), (383998, 5#8), (383999, 6#8)] := by decide

/-- V-HO12: a 4-byte read is little-endian. -/
theorem test_host_read_fb :
    ({ State.reset with fb := [(0, 1#8), (1, 2#8), (2, 3#8), (3, 4#8)] }.hostRead 0x80000 4).resp =
      .value 0x04030201#32 := by decide

/-- V-HO7, V-HO8, V-HO9, V-HO11: accesses that fault. -/
theorem test_host_faults :
    (State.reset.hostRead 0x00014 4).resp = .readFault 0#32 ∧ (State.reset.hostRead 0x00000 2).resp = .readFault 0#32 ∧
      (State.reset.hostWrite 0x80001 2 0x0102#32).resp = .writeFault ∧
      (State.reset.hostWrite 0xDDC00 4 0#32).resp = .writeFault := by decide

/-- V-HO4, V-HO5, V-HO6: REJ. -/
theorem test_rej :
    ((runAt 0x5#4 (.rule 1)).hostWrite 0x4 4 3#32).rej = true ∧
      ({ State.reset with rej := true }.hostWrite 0xC 4 0x00008000#32).rej = false ∧
      ({ State.reset with rej := true }.hostWrite 0xC 4 0#32).rej = true := by decide

/-- R101: `RENDER 800, 480` writes 0x01E00320 to CANVAS, then 0x5 to OP. -/
theorem test_pseudo_render :
    progRender defaultConfig 800#16 480#16 = [.write 0x8 4 0x01E00320#32, .write 0x0 4 0x5#32, .wait] := by decide

/-- 95_test_vectors.md §0: ST_IDLE = 0x001F0002. -/
theorem test_status_idle : idleState.statusWord true = 0x001F0002#32 := by decide

/-- R197 with R40: the handshake of the default codes has 13 events. -/
theorem test_handshake_trace_length : (refreshTrace defaultConfig 0 0 0).length = 13 := by decide

/-- R98: the default table has 66 bytes, and meets R7 and R97. -/
theorem test_default_config : (tableBytes defaultConfig.initTable).length = 66 ∧ configOk defaultConfig = true := by decide

/-- The operation word placed by withFetchWord is run by the next step. -/
theorem test_fetch_runs :
    (match step (State.reset.withFetchWord 32 0x1) with
      | .next t => t.log
      | .fault _ | .refused _ => []) = [.issue 0x1#4, .line .pwr true] := by decide

/-! ## Witnesses: states and operands that meet the hypotheses of each statement, one per clause -/

/-- States built from State.reset in their session, lines, operation, schedule and panel answers only. -/
theorem inv_of {s : State}
    (h : s = { State.reset with
      fsm := s.fsm
      pwr := s.pwr
      rst := s.rst
      dc := s.dc
      busOpen := s.busOpen
      env := s.env
      active := s.active
      op := s.op
      pc := s.pc
      opnd := s.opnd
      argVal := s.argVal
      sched := s.sched
      hostProg := s.hostProg })
    (hs : SessionOk s) (hp : s.active = true → positionOk s) : s.Inv := by
  have hc : configOk defaultConfig = true := by decide
  refine ⟨?_, ?_, ⟨?_, ?_, ?_, ?_⟩, ⟨?_, ?_, ?_, ?_⟩, hs, hp⟩ <;> rw [h]
  · exact hc
  · rfl
  · exact fun _ => ⟨rfl, rfl, rfl⟩
  · exact fun _ => rfl
  · exact fun _ => rfl
  · exact (by decide : (0#19).toNat < npix)
  · exact (by decide : 0 < initTableLen)
  · exact (by decide : 0 < frameBytes)
  · exact (by decide : 0 < npix)
  · intro limit hl
    cases hl

/-- The invariant holds at reset. -/
theorem test_reset_inv : State.reset.Inv :=
  inv_of rfl ⟨fun _ => ⟨rfl, rfl, rfl, rfl⟩, fun h => by simp [State.sessionLive, State.reset] at h,
    fun h => by simp [State.reset] at h⟩ (fun h => by simp [State.reset] at h)

/-- A live session with the bus up is good at every good position of its operation. -/
theorem test_running_inv {opc : BitVec 4} {pc : Pc} (h : positionOk (runAt opc pc)) : (runAt opc pc).Inv :=
  inv_of rfl ⟨fun h => by simp [State.sessionLive, runAt, idleState] at h, fun _ => .inl rfl, fun _ => .inl ⟨rfl, rfl⟩⟩
    (fun _ => h)

/-- An operation at its issue with no session is good. -/
theorem test_issued_inv (opc : BitVec 4) (h : positionOk (issuedAtReset opc)) : (issuedAtReset opc).Inv :=
  inv_of rfl ⟨fun _ => ⟨rfl, rfl, rfl, rfl⟩, fun h => by simp [State.sessionLive, issuedAtReset, State.reset] at h,
    fun h => by simp [issuedAtReset, State.reset] at h⟩ (fun _ => h)

/-- INIT before its last step. -/
def initEnd : State := { runAt 0x1#4 (.rule 16) with fsm := .poweredUp }

/-- SLEEP before its last step. -/
def sleepEnd : State :=
  { runAt 0x8#4 (.rule 9) with pwr := false, rst := false, dc := false, busOpen := false }

/-- INIT at the raise after its bus open failed. -/
def initOpenFailed : State :=
  { issuedAtReset 0x1#4 with fsm := .poweredUp, pwr := true, pc := .abort .busIOFailure openFailed }

theorem test_initEnd_inv : initEnd.Inv :=
  inv_of rfl ⟨fun h => by simp [State.sessionLive, initEnd] at h, fun _ => .inl rfl, fun h => by simp [initEnd] at h⟩
    (fun _ => by simp [positionOk, initOk, decodeOpc, initEnd, runAt, idleState])

theorem test_sleepEnd_inv : sleepEnd.Inv :=
  inv_of rfl ⟨fun h => by simp [State.sessionLive, sleepEnd, runAt, idleState] at h,
      fun _ => .inr ⟨rfl, rfl, 9, rfl, by decide⟩, fun _ => .inr ⟨rfl, rfl, 9, rfl, by decide⟩⟩
    (fun _ => by simp [positionOk, sleepOk, decodeOpc, sleepEnd, runAt, idleState, State.sessionLive])

theorem test_initOpenFailed_inv : initOpenFailed.Inv :=
  inv_of rfl ⟨fun h => by simp [State.sessionLive, initOpenFailed] at h, fun _ => .inl rfl,
      fun h => by simp [initOpenFailed] at h⟩
    (fun _ => by
      simp [positionOk, initOk, initAbortOk, decodeOpc, initOpenFailed, issuedAtReset, State.reset, openFailed])

/-- CMD at its write is good. -/
theorem test_cmd_inv : { runAt 0x2#4 (.rule 1) with dc := false }.Inv :=
  inv_of rfl ⟨fun h => by simp [State.sessionLive, runAt, idleState] at h, fun _ => .inl rfl, fun _ => .inl ⟨rfl, rfl⟩⟩
    (fun _ => by simp [positionOk, rawOk, decodeOpc, runAt, idleState])

/-- REFRESH at its first poll is good. -/
theorem test_refresh_inv : (runAt 0x6#4 (.handshake 2)).Inv :=
  test_running_inv (by simp [positionOk, refreshOk, handshakeOk, decodeOpc, runAt, idleState])

/-! ### Encoding -/

theorem test_witness_words_with_equal_codes :
    ∃ v w : Word, v ≠ w ∧ v.extractLsb' 0 4 = w.extractLsb' 0 4 := ⟨0x1#32, 0xFFFFFFF1#32, by decide, by decide⟩

theorem test_witness_reserved_codes :
    ((0x0#4 = 0x0#4 ∨ 0x9#4 ≤ 0x0#4) ∧ (0x9#4 = 0x0#4 ∨ 0x9#4 ≤ 0x9#4) ∧ (0xF#4 = 0x0#4 ∨ 0x9#4 ≤ 0xF#4)) ∧
      ¬ (0x8#4 = 0x0#4 ∨ 0x9#4 ≤ 0x8#4) := by decide

/-! ### Steps and the host port -/

theorem test_witness_step_runs :
    (∃ s : State, s.active = true ∧ s.sched = [.dpc]) ∧
      (∃ s : State, s.active = true ∧ s.sched = [.host] ∧ s.hostProg = []) ∧
      (∃ s : State, s.active = true ∧ s.sched = [] ∧ s.hostProg = []) ∧
      (∃ s : State, s.active = true ∧ s.sched = [] ∧ s.hostProg ≠ [] ∧ s.hostTurns = 0) ∧
      (∃ s : State, s.active = true ∧ s.sched = [] ∧ s.hostProg ≠ [] ∧ s.hostTurns = 0 + 1) :=
  ⟨⟨{ runAt 0x2#4 (.rule 0) with sched := [.dpc] }, rfl, rfl⟩, ⟨{ runAt 0x2#4 (.rule 0) with sched := [.host] }, rfl, rfl, rfl⟩,
    ⟨runAt 0x2#4 (.rule 0), rfl, rfl, rfl⟩,
    ⟨{ runAt 0x2#4 (.rule 0) with hostProg := [.wait], hostLeft := some 0 }, rfl, rfl, by decide, rfl⟩,
    ⟨{ runAt 0x2#4 (.rule 0) with hostProg := [.wait], hostLeft := some 1 }, rfl, rfl, by decide, rfl⟩⟩

theorem test_witness_host_moves :
    (∃ s : State, s.sched = [.host] ∧ s.hostProg ≠ []) ∧ (∃ s : State, s.sched = [.dpc] ∧ s.active = false) ∧
      (∃ s : State, s.sched = [] ∧ s.active = false) ∧ (∃ s : State, s.hostProg = []) ∧
      (∃ s : State, s.hostProg = [.write 0 4 1#32]) ∧ (∃ s : State, s.hostProg = [.read 0 4]) ∧
      (∃ s : State, s.hostProg = [.wait] ∧ s.active = true) ∧ (∃ s : State, s.hostProg = [.wait] ∧ s.active = false) :=
  ⟨⟨{ State.reset with sched := [.host], hostProg := [.wait] }, rfl, by decide⟩,
    ⟨{ State.reset with sched := [.dpc] }, rfl, rfl⟩, ⟨State.reset, rfl, rfl⟩, ⟨State.reset, rfl⟩,
    ⟨{ State.reset with hostProg := [.write 0 4 1#32] }, rfl⟩,
    ⟨{ State.reset with hostProg := [.read 0 4] }, rfl⟩, ⟨{ runAt 0x2#4 (.rule 0) with hostProg := [.wait] }, rfl, rfl⟩,
    ⟨{ State.reset with hostProg := [.wait] }, rfl, rfl⟩⟩

/-- A run: a reserved operation is issued, raises IllegalOp, and then nothing moves. -/
def illegalRun : Nat → State
  | 0 => issuedAtReset 0x0#4
  | _ + 1 => (issuedAtReset 0x0#4).raise .illegalOp 0#2

theorem test_witness_run : IsRun illegalRun ∧ (illegalRun 0).active = true := by
  refine ⟨fun k => ?_, rfl⟩
  cases k <;> rfl

/-- R101: the host's program INIT writes OP, which issues the operation, and then waits. -/
theorem test_host_write_issues :
    (match step { State.reset with hostProg := progInit defaultConfig } with
      | .next t => (t.active, t.op, t.hostProg)
      | .fault _ | .refused _ => (false, 0#4, [])) = (true, 0x1#4, [.wait]) := by decide

/-! ### The end of a run (R263) -/

/-- A log with a lifecycle, one broken off by a block reset, and another lifecycle. -/
def twoLifecycles : List Event :=
  [.issue 0x1#4, .line .pwr true, .done .noError 0#2, .issue 0x8#4, .line .pwr false, .done .noError 0#2,
    .issue 0x1#4, .line .pwr true, .blockReset,
    .issue 0x2#4, .done .busIOFailure 2#2,
    .issue 0x1#4, .line .pwr true, .issue 0x1#4, .done .sequenceError 0#2, .issue 0x8#4, .close, .line .pwr false,
    .done .noError 0#2,
    .issue 0x8#4, .done .sequenceError 0#2]

/-- Asleep, with `twoLifecycles` behind it and the host at one access. -/
def asleepAt (item : HostItem) : State :=
  { State.reset with fsm := .asleep, canvasW := 4#16, env := goodEnv, log := twoLifecycles, hostProg := [item] }

/-- R263: a read of STATUS ends the run, as `wait` does, and its result is the trace of the last lifecycle only. -/
theorem test_run_ends :
    (asleepAt (.read 0xC 4)).runEnds = some [.line .pwr true, .close, .line .pwr false] ∧
      (asleepAt .wait).runEnds = some [.line .pwr true, .close, .line .pwr false] := by decide

/-- R263: a read of CANVAS that returns 4 does not, and neither does a block reset's turn. -/
theorem test_run_goes_on :
    (asleepAt (.read 0x8 4)).runEnds = none ∧ ({ asleepAt .wait with sched := [.blockReset []] }).runEnds = none := by
  decide

theorem test_witness_issue_and_completion :
    State.reset.active = false ∧
      (∃ t, (runAt 0x2#4 (.rule 1)).active = true ∧ exec .cmd (runAt 0x2#4 (.rule 1)) = .next t ∧ t.active = true) ∧
      (∃ t, (runAt 0x2#4 (.rule 2)).active = true ∧ exec .cmd (runAt 0x2#4 (.rule 2)) = .next t ∧ t.active = false) :=
  ⟨rfl, ⟨_, rfl, rfl, rfl⟩, ⟨_, rfl, rfl, rfl⟩⟩

theorem test_witness_dropped_writes :
    (runAt 0x5#4 (.rule 1)).active = true ∧ windowOffset defaultConfig 0xDDBFC = some 0xDDBFC ∧
      hostTarget 0x0 4 = some .op ∧ hostTarget 0x4 4 = some .arg ∧ hostTarget 0x8 4 = some .canvas ∧
      hostTarget 0x80000 1 = some (.fb 0) ∧ hostTarget 0xDDBFC 4 = some (.fb 383996) := by decide

theorem test_witness_rej_cleared :
    ∃ s t : State, step s = .next t ∧ s.rej = true ∧ t.rej = false ∧ s.hostProg = [.write 0xC 4 0x00008000#32] :=
  ⟨{ State.reset with rej := true, hostProg := [.write 0xC 4 0x00008000#32] }, _, rfl, rfl, rfl, rfl⟩

theorem test_witness_rej_reset :
    ∃ s t : State, step s = .next t ∧ s.rej = true ∧ t.rej = false ∧ s.sched = [.blockReset []] :=
  ⟨{ State.reset with rej := true, sched := [.blockReset []] }, _, rfl, rfl, rfl, rfl⟩

/-- R62 at its boundaries: legal and illegal offsets and widths. -/
theorem test_witness_host_accesses :
    (0x10 < 0x100000 ∧ (4 = 4 ∧ 0x10 % 4 = 0 ∧ 0x10 < 0x14)) ∧
      (0xDDBFF < 0x100000 ∧ (1 = 1 ∧ 0xDDBFF % 1 = 0 ∧ 0x80000 ≤ 0xDDBFF ∧ 0xDDBFF + 1 ≤ 0xDDC00)) ∧
      (0x14 < 0x100000 ∧ ¬ (0x14 < 0x14)) ∧ (0xFFFFF < 0x100000 ∧ ¬ (0xFFFFF + 1 ≤ 0xDDC00)) := by decide

theorem test_witness_framebuffer_access :
    Memory.wf State.reset.fb = true ∧ State.reset.active = false ∧ 383996 % 4 = 0 ∧ 383996 + 4 ≤ 384000 ∧
      383998 % 2 = 0 ∧ 383998 + 2 ≤ 384000 ∧ 383999 % 1 = 0 ∧ 383999 + 1 ≤ 384000 := by decide

theorem test_witness_registers : State.reset.active = false := rfl

/-- R259, R29: ERRINFO is read, and a write to it ignored, while an operation is active too. -/
theorem test_registers_while_active :
    ({ runAt 0x5#4 (.rule 1) with argVal := 3#8 }.hostRead 0x4 4).resp = .value 3#32 ∧
      (runAt 0x5#4 (.rule 1)).hostWrite 0x10 4 7#32 = { runAt 0x5#4 (.rule 1) with resp := .written } := by decide

theorem test_witness_fill :
    Memory.wf State.reset.fb = true ∧ State.reset.active = false ∧ State.reset.hostProg = [] := ⟨rfl, rfl, rfl⟩

/-! ### Reset -/

theorem test_witness_reset_values : ∃ (s : State) (contents : List Cell) (t u : State),
    t = s.blockReset contents ∧ u = State.reset := ⟨runAt 0x5#4 (.handshake 3), [(0, 7#8)], _, _, rfl, rfl⟩

theorem test_witness_block_reset : ∃ s : State, s.active = true ∧ s.sched = [.blockReset [(383999, 9#8)]] :=
  ⟨{ runAt 0x5#4 (.handshake 3) with sched := [.blockReset [(383999, 9#8)]] }, rfl, rfl⟩

theorem test_witness_cells_stay :
    ∃ s t : State, step s = .next t ∧ s.sched = [.dpc] ∧ s.hostProg = [.read 0xC 4] ∧ s.fb = [(3, 5#8)] :=
  ⟨{ runAt 0x2#4 (.rule 1) with sched := [.dpc], hostProg := [.read 0xC 4], fb := [(3, 5#8)] }, _, rfl, rfl, rfl, rfl⟩

/-! ### Pure functions -/

/-- R121's corner cases: an odd length, [1, 7], and [6, 6] = 0x66. -/
theorem test_witness_pack :
    [1#8].length % 2 = 1 ∧ pack [1#8] = .error .oddLength ∧
      ([1#8, 7#8].length % 2 = 0 ∧ [1#8, 7#8][1]? = some 7#8 ∧ ¬ 7#8 ≤ 6#8 ∧ pack [1#8, 7#8] = .error (.paletteMismatch 1)) ∧
      ([6#8, 6#8].length % 2 = 0 ∧ (∀ v ∈ [6#8, 6#8], v ≤ 6#8) ∧ pack [6#8, 6#8] = .ok [0x66#8]) := by decide

theorem test_witness_unpack : [0x12#8][0]? = some 0x12#8 ∧ unpack [0x12#8] = [0x01#8, 0x02#8] := by decide

/-- Every cell of the empty list is 0: valid, and of one colour. -/
theorem test_witness_valid_cells : (∀ a, a < 384000 → Memory.read [] a ≤ 6#8) ∧ (∀ a, a < 384000 → Memory.read [] a = 0#8) :=
  ⟨fun _ _ => (by decide : unlistedCell ≤ 6#8), fun _ _ => rfl⟩

theorem test_witness_colour : 0#8 ≤ 6#8 ∧ 6#8 ≤ 6#8 ∧ ¬ 7#8 ≤ 6#8 := by decide

/-! ### CMD, DATA, WAIT_IDLE -/

theorem test_witness_cmd :
    ((issuedAtReset 0x2#4).pc = .rule 0 ∧ (issuedAtReset 0x2#4).busOpen = false) ∧
      (∃ s : State, s.pc = .rule 0 ∧ s.busOpen = true ∧ (s.env.drawWrite [s.argVal]).1 = true) ∧
      (∃ s : State, s.pc = .rule 0 ∧ s.busOpen = true ∧ (s.env.drawWrite [s.argVal]).1 = false) :=
  ⟨⟨rfl, rfl⟩, ⟨runAt 0x2#4 (.rule 0), rfl, rfl, rfl⟩, ⟨withWrites (runAt 0x2#4 (.rule 0)) [false], rfl, rfl, rfl⟩⟩

theorem test_witness_data :
    ((issuedAtReset 0x3#4).pc = .rule 0 ∧ (issuedAtReset 0x3#4).busOpen = false) ∧
      (∃ s : State, s.pc = .rule 0 ∧ s.busOpen = true ∧ (s.env.drawWrite [s.argVal]).1 = true) ∧
      (∃ s : State, s.pc = .rule 0 ∧ s.busOpen = true ∧ (s.env.drawWrite [s.argVal]).1 = false) :=
  ⟨⟨rfl, rfl⟩, ⟨runAt 0x3#4 (.rule 0), rfl, rfl, rfl⟩, ⟨withWrites (runAt 0x3#4 (.rule 0)) [false], rfl, rfl, rfl⟩⟩

theorem test_witness_closed_bus :
    ∃ s : State, s.pc = .rule 0 ∧ s.busOpen = false ∧ s.canvasW = 800#16 ∧ s.canvasH = 480#16 ∧ s.argVal ≤ 6#8 ∧
      ∀ a, a < 384000 → Memory.read s.fb a ≤ 6#8 :=
  ⟨{ issuedAtReset 0x5#4 with canvasW := 800#16, canvasH := 480#16 }, rfl, rfl, rfl, rfl, by decide,
    test_witness_valid_cells.1⟩

theorem test_witness_waitIdle_returns :
    ∃ s : State, s.pc = .rule 0 ∧ s.busOpen = true ∧ s.env.pollsGive (pollSamples s.cfg 2) = true ∧
      s.cfg.busyTimeoutPolls = some 3 ∧ withinTimeout s.cfg 2 = true :=
  ⟨{ withPolls (runAt 0x4#4 (.rule 0)) [false, false, true] with
      cfg := { defaultConfig with busyTimeoutPolls := some 3 } }, rfl, rfl, rfl, rfl, rfl⟩

theorem test_witness_waitIdle_times_out :
    ∃ s : State, s.pc = .rule 0 ∧ s.busOpen = true ∧ s.cfg.busyTimeoutPolls = some 1 ∧ 1 ≤ 1 ∧
      s.env.pollsGive (List.replicate 1 (!s.cfg.busyIdleLevel)) = true :=
  ⟨{ withPolls (runAt 0x4#4 (.rule 0)) [false] with cfg := { defaultConfig with busyTimeoutPolls := some 1 } },
    rfl, rfl, rfl, by decide, rfl⟩

theorem test_witness_waitIdle_hangs :
    ∃ s : State, s.pc = .rule 0 ∧ s.busOpen = true ∧ s.active = true ∧ s.cfg.busyTimeoutPolls = none ∧
      s.env.pollsGive (List.replicate 3 (!s.cfg.busyIdleLevel)) = true :=
  ⟨withPolls (runAt 0x4#4 (.rule 0)) [false, false, false], rfl, rfl, rfl, rfl, rfl⟩

/-! ### INIT -/

theorem test_witness_out_of_order :
    (∃ s : State, s.pc = .rule 0 ∧ s.fsm = .poweredUp) ∧ (∃ s : State, s.pc = .rule 0 ∧ s.fsm = .idle) ∧
      (∃ s : State, s.pc = .rule 0 ∧ s.fsm = .uninit) ∧ (∃ s : State, s.pc = .rule 0 ∧ s.fsm = .asleep) :=
  ⟨⟨{ issuedAtReset 0x1#4 with fsm := .poweredUp }, rfl, rfl⟩, ⟨runAt 0x1#4 (.rule 0), rfl, rfl⟩,
    ⟨issuedAtReset 0x8#4, rfl, rfl⟩, ⟨{ issuedAtReset 0x8#4 with fsm := .asleep }, rfl, rfl⟩⟩

theorem test_witness_init_open :
    (∃ s : State, s.pc = .rule 0 ∧ s.fsm = .uninit ∧ s.env.drawOpen.1 = true) ∧
      (∃ s : State, s.pc = .rule 0 ∧ s.fsm = .asleep ∧ s.env.drawOpen.1 = false) :=
  ⟨⟨issuedAtReset 0x1#4, rfl, rfl, rfl⟩,
    ⟨{ issuedAtReset 0x1#4 with fsm := .asleep, env := { goodEnv with opens := [false] } }, rfl, rfl, rfl⟩⟩

theorem test_witness_reset_pulse : (runAt 0x1#4 (.rule 2)).pc = .rule 2 := rfl

theorem test_witness_init_whole_table :
    ∃ s : State, s.pc = .rule 0 ∧ s.fsm = .uninit ∧ configOk s.cfg = true ∧ s.env.drawOpen.1 = true ∧
      s.env.pollsGive (pollSamples s.cfg 1) = true ∧ withinTimeout s.cfg 1 = true ∧
      s.env.writesSucceed ((tableBytes s.cfg.initTable).map (fun x => [x.2])) = true :=
  ⟨withPolls (issuedAtReset 0x1#4) [false, true], by decide⟩

theorem test_witness_init_failing_byte :
    ∃ s : State, s.pc = .rule 11 ∧ configOk s.cfg = true ∧ (tableBytes s.cfg.initTable)[1]? = some (true, 0x49#8) ∧
      s.env.writesSucceed (((tableBytes s.cfg.initTable).take 1).map (fun x => [x.2])) = true ∧
      ((s.env.afterWrites (((tableBytes s.cfg.initTable).take 1).map (fun x => [x.2]))).drawWrite [0x49#8]).1 = false :=
  ⟨withWrites (runAt 0x1#4 (.rule 11)) [true, false], by decide⟩

/-- The last byte of the default table is byte 65. -/
theorem test_witness_last_table_byte : (tableBytes defaultConfig.initTable)[65]? = some (true, 0x00#8) := by decide

theorem test_witness_init_errors :
    ∃ s t : State, s.Inv ∧ s.active = true ∧ decodeOpc s.op = .init ∧ exec .init s = .next t ∧ t.active = false ∧
      t.err ≠ .noError := ⟨initOpenFailed, _, test_initOpenFailed_inv, rfl, rfl, rfl, rfl, by decide⟩

theorem test_witness_init_out_of_order :
    ∃ s t : State, s.Inv ∧ s.active = true ∧ decodeOpc s.op = .init ∧ exec .init s = .next t ∧ t.active = false ∧
      t.err = .sequenceError :=
  ⟨runAt 0x1#4 (.rule 0), _, test_running_inv (by simp [positionOk, initOk, decodeOpc, runAt, idleState]),
    rfl, rfl, rfl, rfl, rfl⟩

theorem test_witness_busy_sample :
    (∃ s t : State, s.active = true ∧ exec (decodeOpc s.op) s = .next t ∧
        t.log = s.log ++ [.poll (!s.cfg.busyIdleLevel)] ∧ s.cfg.busyTimeoutPolls = some 1 ∧ 1 ≤ t.n) ∧
      (∃ s t : State, s.active = true ∧ exec (decodeOpc s.op) s = .next t ∧
        t.log = s.log ++ [.poll (!s.cfg.busyIdleLevel)] ∧ s.cfg.busyTimeoutPolls = none) :=
  ⟨⟨{ withPolls (runAt 0x6#4 (.handshake 2)) [false] with cfg := { defaultConfig with busyTimeoutPolls := some 1 } }, _,
      rfl, rfl, rfl, rfl, by decide⟩,
    ⟨withPolls (runAt 0x6#4 (.handshake 2)) [false], _, rfl, rfl, rfl, rfl⟩⟩

/-! ### Frame operations -/

/-- RENDER just issued with a good canvas, every cell 0. -/
def renderStart : State := { runAt 0x5#4 (.rule 0) with canvasW := 800#16, canvasH := 480#16 }

theorem test_witness_render_dimensions :
    (∃ s : State, s.pc = .rule 0 ∧ s.canvasW = 799#16 ∧ s.canvasW ≠ 800#16) ∧
      (∃ s : State, s.pc = .rule 0 ∧ s.canvasW = 800#16 ∧ s.canvasH ≠ 480#16) :=
  ⟨⟨{ renderStart with canvasW := 799#16 }, rfl, rfl, by decide⟩, ⟨{ renderStart with canvasH := 481#16 }, rfl, rfl, by decide⟩⟩

/-- V-FR5: the last cell is 7, the others 0. -/
theorem test_witness_render_last_cell :
    ∃ s : State, s.pc = .rule 0 ∧ s.canvasW = 800#16 ∧ s.canvasH = 480#16 ∧ ¬ Memory.read s.fb 383999 ≤ 6#8 ∧
      ∀ q, q < 383999 → Memory.read s.fb q ≤ 6#8 := by
  refine ⟨{ renderStart with fb := [(383999, 7#8)] }, rfl, rfl, rfl, by decide, fun q hq => ?_⟩
  have h : Memory.read [(383999, 7#8)] q = 0#8 := by
    rw [Memory.read_cons, if_neg (by dsimp only; omega)]
    rfl
  rw [h]
  decide

theorem test_witness_render_runs :
    ∃ s : State, s.pc = .rule 0 ∧ s.busOpen = true ∧ s.canvasW = 800#16 ∧ s.canvasH = 480#16 ∧
      (∀ a, a < 384000 → Memory.read s.fb a ≤ 6#8) ∧ withinTimeout s.cfg 0 = true ∧
      s.env.writesSucceed [[s.cfg.cmdDtm], frame s.fb, [s.cfg.cmdPowerOn], [s.cfg.cmdRefresh], [0x00#8],
        [s.cfg.cmdPowerOff], [0x00#8]] = true ∧
      s.env.pollsGive (pollSamples s.cfg 0 ++ pollSamples s.cfg 0 ++ pollSamples s.cfg 0) = true :=
  ⟨renderStart, rfl, rfl, rfl, rfl, test_witness_valid_cells.1, rfl, rfl, rfl⟩

theorem test_witness_refresh_runs :
    ∃ s : State, s.pc = .rule 0 ∧ s.busOpen = true ∧ withinTimeout s.cfg 1 = true ∧ withinTimeout s.cfg 0 = true ∧
      s.env.writesSucceed [[s.cfg.cmdPowerOn], [s.cfg.cmdRefresh], [0x00#8], [s.cfg.cmdPowerOff], [0x00#8]] = true ∧
      s.env.pollsGive (pollSamples s.cfg 1 ++ pollSamples s.cfg 0 ++ pollSamples s.cfg 0) = true :=
  ⟨withPolls (runAt 0x6#4 (.rule 0)) [false, true, true, true], rfl, rfl, rfl, rfl, rfl, rfl⟩

theorem test_witness_clear_rejects : ∃ s : State, s.pc = .rule 0 ∧ s.argVal = 7#8 ∧ ¬ s.argVal ≤ 6#8 :=
  ⟨{ runAt 0x7#4 (.rule 0) with argVal := 7#8 }, rfl, rfl, by decide⟩

theorem test_witness_clear_runs :
    ∃ s : State, s.pc = .rule 0 ∧ s.busOpen = true ∧ s.argVal = 6#8 ∧ s.argVal ≤ 6#8 ∧ withinTimeout s.cfg 0 = true ∧
      s.env.writesSucceed [[s.cfg.cmdDtm], List.replicate 192000 ((s.argVal <<< 4) ||| s.argVal), [s.cfg.cmdPowerOn],
        [s.cfg.cmdRefresh], [0x00#8], [s.cfg.cmdPowerOff], [0x00#8]] = true ∧
      s.env.pollsGive (pollSamples s.cfg 0 ++ pollSamples s.cfg 0 ++ pollSamples s.cfg 0) = true :=
  ⟨{ runAt 0x7#4 (.rule 0) with argVal := 6#8 }, rfl, rfl, rfl, by decide, rfl, rfl, rfl⟩

/-- RENDER at its bulk write, in a good state. -/
theorem test_witness_bulk_render :
    ∃ (s t : State) (bytes : List Byte), s.Inv ∧ s.active = true ∧ decodeOpc s.op = .render ∧ s.pc = .rule 3 ∧
      exec .render s = .next t ∧ t.log = s.log ++ [.write true bytes true] :=
  ⟨runAt 0x5#4 (.rule 3), _, frame [], test_running_inv (by
      simp [positionOk, frameOk, decodeOpc, runAt, idleState, State.reset, valid, unlistedCell]), rfl, rfl, rfl, rfl, rfl⟩

/-- CLEAR at its bulk write, in a good state. -/
theorem test_witness_bulk_clear :
    ∃ (s t : State) (bytes : List Byte), s.Inv ∧ s.active = true ∧ decodeOpc s.op = .clear ∧ s.pc = .rule 3 ∧
      exec .clear s = .next t ∧ t.log = s.log ++ [.write true bytes true] :=
  ⟨runAt 0x7#4 (.rule 3), _, fill 0#8, test_running_inv (by
      simp [positionOk, frameOk, decodeOpc, runAt, idleState, State.reset, valid]), rfl, rfl, rfl, rfl, rfl⟩

/-! ### SLEEP -/

theorem test_witness_sleep_runs :
    ∃ s : State, s.pc = .rule 0 ∧ s.fsm = .idle ∧ s.busOpen = true ∧
      s.env.writesSucceed [[s.cfg.cmdDeepSleep], [0xA5#8]] = true := ⟨runAt 0x8#4 (.rule 0), rfl, rfl, rfl, rfl⟩

theorem test_witness_sleep_failed_write :
    (∃ s : State, s.pc = .rule 0 ∧ s.fsm = .idle ∧ s.busOpen = true ∧ (s.env.drawWrite [s.cfg.cmdDeepSleep]).1 = false) ∧
      (∃ s : State, s.pc = .rule 0 ∧ s.fsm = .poweredUp ∧ s.busOpen = true ∧
        (s.env.drawWrite [s.cfg.cmdDeepSleep]).1 = true ∧
        ((s.env.drawWrite [s.cfg.cmdDeepSleep]).2.drawWrite [0xA5#8]).1 = false) :=
  ⟨⟨withWrites (runAt 0x8#4 (.rule 0)) [false], rfl, rfl, rfl, rfl⟩,
    ⟨withWrites { runAt 0x8#4 (.rule 0) with fsm := .poweredUp } [true, false], rfl, rfl, rfl, rfl, rfl⟩⟩

theorem test_witness_sleep_closed_bus : ∃ s : State, s.pc = .rule 0 ∧ s.fsm = .poweredUp ∧ s.busOpen = false :=
  ⟨{ issuedAtReset 0x8#4 with fsm := .poweredUp, pwr := true }, rfl, rfl, rfl⟩

theorem test_witness_sleep_ends :
    ∃ s t : State, exec .sleep s = .next t ∧ t.fsm = .asleep ∧ s.fsm ≠ .asleep ∧ opcOf 0x8#32 = 0x8#4 ∧
      opcOf 0x1#32 = 0x1#4 := ⟨sleepEnd, _, rfl, rfl, by decide, by decide, by decide⟩

/-! ### Errors -/

theorem test_witness_illegal : (issuedAtReset 0xF#4).pc = .rule 0 := rfl

theorem test_witness_failed_write :
    ∃ s t : State, s.active = true ∧ decodeOpc s.op ≠ .sleep ∧ exec (decodeOpc s.op) s = .next t ∧
      t.log = s.log ++ [.write false [0x12#8] false] :=
  ⟨withWrites { runAt 0x6#4 (.handshake 6) with dc := false } [false], _, rfl, by decide, rfl, rfl⟩

theorem test_witness_abort :
    ∃ s t : State, exec .cmd s = .next t ∧ t.log = s.log ++ [.done .busIOFailure 2#2] ∧ s.err = .noError :=
  ⟨issuedAtReset 0x2#4, _, rfl, rfl, rfl⟩

theorem test_witness_deferred_failure :
    ∃ s t : State, exec .sleep s = .next t ∧ t.log = s.log ++ [.done .busIOFailure 1#2] ∧ s.err = .noError :=
  ⟨{ sleepEnd with errPending := true }, _, rfl, rfl, rfl⟩

theorem test_witness_operation_ends :
    ∃ s t : State, s.Inv ∧ s.active = true ∧ exec (decodeOpc s.op) s = .next t ∧ t.active = false :=
  ⟨sleepEnd, _, test_sleepEnd_inv, rfl, rfl, rfl⟩

/-! ### Whole-machine rules -/

theorem test_witness_steps :
    (∃ t, exec .cmd (runAt 0x2#4 (.rule 1)) = .next t) ∧
      (∃ t, step { runAt 0x2#4 (.rule 1) with sched := [.blockReset []] } = .next t) ∧
      (∃ t, step (runAt 0x2#4 (.rule 1)) = .next t) ∧
      (∃ t, step { State.reset with hostProg := [.read 0x14 4] } = .next t) :=
  ⟨⟨_, rfl⟩, ⟨_, rfl⟩, ⟨_, rfl⟩, ⟨_, rfl⟩⟩

theorem test_witness_lines_move :
    (∃ s t : State, step s = .next t ∧ s.sched = [.dpc] ∧ t.pwr ≠ s.pwr) ∧
      (∃ s t : State, step s = .next t ∧ s.sched = [.dpc] ∧ t.rst ≠ s.rst) ∧
      (∃ s t : State, step s = .next t ∧ s.sched = [.dpc] ∧ t.dc ≠ s.dc) ∧
      (∃ s t : State, step s = .next t ∧ s.sched = [.dpc] ∧ t.busOpen ≠ s.busOpen) :=
  ⟨⟨{ issuedAtReset 0x1#4 with sched := [.dpc] }, _, rfl, rfl, by decide⟩,
    ⟨{ runAt 0x8#4 (.rule 6) with sched := [.dpc] }, _, rfl, rfl, by decide⟩,
    ⟨{ runAt 0x8#4 (.rule 7) with sched := [.dpc] }, _, rfl, rfl, by decide⟩,
    ⟨{ runAt 0x8#4 (.rule 5) with sched := [.dpc] }, _, rfl, rfl, by decide⟩⟩

theorem test_witness_bus_opens : ∃ s t : State, step s = .next t ∧ s.sched = [.dpc] ∧ t.busOpen ≠ s.busOpen ∧ t.busOpen = true :=
  ⟨{ issuedAtReset 0x1#4 with pc := .rule 1, sched := [.dpc] }, _, rfl, rfl, by decide, rfl⟩

theorem test_witness_fsm_changes :
    (∃ s t : State, s.Inv ∧ step s = .next t ∧ s.fsm = .uninit ∧ t.fsm = .poweredUp) ∧
      (∃ s t : State, s.Inv ∧ step s = .next t ∧ s.fsm = .poweredUp ∧ t.fsm = .idle) ∧
      (∃ s t : State, s.Inv ∧ step s = .next t ∧ s.fsm = .idle ∧ t.fsm = .asleep) ∧
      (∃ s t : State, s.Inv ∧ step s = .next t ∧ s.fsm = .idle ∧ t.fsm = .uninit) :=
  ⟨⟨issuedAtReset 0x1#4, _, test_issued_inv _ (by simp [positionOk, initOk, decodeOpc, issuedAtReset, State.reset]),
      rfl, rfl, rfl⟩,
    ⟨initEnd, _, test_initEnd_inv, rfl, rfl, rfl⟩, ⟨sleepEnd, _, test_sleepEnd_inv, rfl, rfl, rfl⟩,
    ⟨{ runAt 0x6#4 (.handshake 2) with sched := [.blockReset []] }, _,
      inv_of rfl ⟨fun h => by simp [State.sessionLive, runAt, idleState] at h, fun _ => .inl rfl, fun _ => .inl ⟨rfl, rfl⟩⟩
        (fun _ => by simp [positionOk, refreshOk, handshakeOk, decodeOpc, runAt, idleState]), rfl, rfl, rfl⟩⟩

theorem test_witness_host_while_active :
    ∃ s : State, s.active = true ∧ s.hostProg = [.write 0x4 4 3#32] ∧ s.hostStep.rej = true :=
  ⟨{ runAt 0x5#4 (.rule 1) with hostProg := [.write 0x4 4 3#32] }, rfl, rfl, rfl⟩

theorem test_witness_framebuffer_form : ∃ s t : State, Memory.wf s.fb = true ∧ step s = .next t ∧ t.fb = [(383999, 7#8)] :=
  ⟨{ State.reset with hostProg := [.write 0xDDBFF 1 7#32] }, _, rfl, rfl, rfl⟩

theorem test_witness_good_steps :
    (∃ s t : State, s.Inv ∧ step s = .next t ∧ s.active = true) ∧ (∃ s t : State, s.Inv ∧ step s = .next t ∧ s.active = false) :=
  ⟨⟨_, _, test_refresh_inv, rfl, rfl⟩, ⟨State.reset, _, test_reset_inv, rfl, rfl⟩⟩

theorem test_witness_good_write :
    ∃ s t : State, s.Inv ∧ s.active = true ∧ exec (decodeOpc s.op) s = .next t ∧ t.log = s.log ++ [.write false [0x00#8] true] :=
  ⟨_, _, test_cmd_inv, rfl, rfl, rfl⟩

/-- The frame's clauses on the busy count and the timer: a sample and a delay that change them. -/
theorem test_witness_counts_change :
    (∃ s t : State, exec .waitIdle s = .next t ∧ t.n ≠ s.n) ∧ (∃ s t : State, exec .waitIdle s = .next t ∧ t.timer ≠ s.timer) ∧
      (∃ s t : State, exec .init s = .next t ∧ t.env.opens ≠ s.env.opens) :=
  ⟨⟨{ withPolls (runAt 0x4#4 (.rule 0)) [true] with n := 3 }, _, rfl, by decide⟩, ⟨runAt 0x4#4 (.rule 1), _, rfl, by decide⟩,
    ⟨{ issuedAtReset 0x1#4 with pc := .rule 1 }, _, rfl, by decide⟩⟩

theorem test_witness_delay : ∃ s t : State, exec .waitIdle s = .next t ∧ t.log = s.log ++ [.delay 5] :=
  ⟨runAt 0x4#4 (.rule 1), _, rfl, rfl⟩

end Sys2Proof.Tests
end

section
/-! PROOFS. The event log (00_scope.md R11, 10_state.md R40): the step of an operation appends one event, at whichever
position of its rule it stands; the host's step and the block reset append one event or none. -/

namespace Sys2Proof.Machine

/-- The log of `t` is `log` with one event after it. -/
def LogsOneEvent (log : List Event) (t : State) : Prop := ∃ e, t.log = log ++ [e]

/-- A step that goes on has appended one event to `log`; a fault or a refusal leaves no state to speak of. -/
def StepLogsOneEvent (log : List Event) : Result → Prop
  | .next t => LogsOneEvent log t
  | .fault _ | .refused _ => True

@[simp] theorem stepLogsOneEvent_next (log : List Event) (t : State) :
    StepLogsOneEvent log (.next t) ↔ ∃ e, t.log = log ++ [e] := .rfl

@[simp] theorem stepLogsOneEvent_fault (log : List Event) (f : Fault) : StepLogsOneEvent log (.fault f) := trivial

/-! ## Steps that branch before their event -/

/-- The gate appends Done itself, or leaves the event to what follows it (R183). -/
theorem State.gated_logsOneEvent {s : State} {go : State → State} (h : LogsOneEvent s.log (go s)) :
    LogsOneEvent s.log (s.gated go) := by
  cases hb : s.busOpen with
  | true => rwa [State.gated_open hb]
  | false => exact ⟨_, by rw [State.gated_closed hb, State.raise_log]⟩

/-- RENDER's validation appends Done itself, or leaves the event to what follows it (R191). -/
theorem State.validated_logsOneEvent {s : State} {go : State → State}
    (h : LogsOneEvent s.log (go { s with p := npix - 1 })) : LogsOneEvent s.log (s.validated go) := by
  cases hp : firstInvalidCell s.fb with
  | none => rwa [State.validated_ok (firstInvalidCell_none.mp hp)]
  | some p => exact ⟨_, by rw [State.validated_bad hp, State.raise_log]⟩

/-- SLEEP's last step appends Done, with the deferred failure or with none (R210, R211). -/
theorem State.sleepEnd_logsOneEvent (s : State) : LogsOneEvent s.log s.sleepEnd := by
  unfold State.sleepEnd
  split <;> exact ⟨_, rfl⟩

/-! ## The operations -/

/-- Every step of `Refresh()` is a primitive with one event (R197). -/
@[simp] theorem handshakeStep_logsOneEvent (s : State) (n : Nat) : StepLogsOneEvent s.log (handshakeStep s n) := by
  unfold handshakeStep
  split <;> simp

theorem execIllegal_logsOneEvent (opc : BitVec 4) (s : State) : StepLogsOneEvent s.log (execIllegal opc s) := by
  unfold execIllegal
  split <;> simp

theorem execInit_logsOneEvent (s : State) : StepLogsOneEvent s.log (execInit s) := by
  unfold execInit
  split
  -- the check of the session, and the table's command and data bytes
  case h_1 => split <;> simp
  case h_14 => split <;> simp
  case h_16 =>
    split
    · split <;> simp
    · simp
  all_goals simp

theorem execCmd_logsOneEvent (s : State) : StepLogsOneEvent s.log (execCmd s) := by
  unfold execCmd
  split
  case h_1 => exact State.gated_logsOneEvent (s := { s with opnd := s.argVal }) ⟨_, rfl⟩
  all_goals simp

theorem execData_logsOneEvent (s : State) : StepLogsOneEvent s.log (execData s) := by
  unfold execData
  split
  case h_1 => exact State.gated_logsOneEvent (s := { s with opnd := s.argVal }) ⟨_, rfl⟩
  all_goals simp

theorem execWaitIdle_logsOneEvent (s : State) : StepLogsOneEvent s.log (execWaitIdle s) := by
  unfold execWaitIdle
  split
  case h_1 => exact State.gated_logsOneEvent ⟨_, State.pollStart_log ..⟩
  all_goals simp

theorem execRender_logsOneEvent (s : State) : StepLogsOneEvent s.log (execRender s) := by
  unfold execRender
  split
  case h_1 =>
    split
    · exact State.validated_logsOneEvent (State.gated_logsOneEvent (s := { s with p := npix - 1 }) ⟨_, rfl⟩)
    · simp
  all_goals simp

theorem execRefresh_logsOneEvent (s : State) : StepLogsOneEvent s.log (execRefresh s) := by
  unfold execRefresh
  split
  case h_1 => exact State.gated_logsOneEvent ⟨_, rfl⟩
  all_goals simp

theorem execClear_logsOneEvent (s : State) : StepLogsOneEvent s.log (execClear s) := by
  unfold execClear
  split
  case h_1 =>
    split
    · exact State.gated_logsOneEvent (s := { s with opnd := s.argVal }) ⟨_, rfl⟩
    · simp
  all_goals simp

theorem execSleep_logsOneEvent (s : State) : StepLogsOneEvent s.log (execSleep s) := by
  unfold execSleep
  split
  case h_1 =>
    split
    · split <;> simp
    · simp
  case h_10 => exact s.sleepEnd_logsOneEvent
  all_goals simp

/-- Every step of an operation appends exactly one event (R11). -/
theorem exec_logsOneEvent (i : Instr) (s : State) : StepLogsOneEvent s.log (exec i s) := by
  cases i with
  | illegal opc => exact execIllegal_logsOneEvent opc s
  | init => exact execInit_logsOneEvent s
  | cmd => exact execCmd_logsOneEvent s
  | data => exact execData_logsOneEvent s
  | waitIdle => exact execWaitIdle_logsOneEvent s
  | render => exact execRender_logsOneEvent s
  | refresh => exact execRefresh_logsOneEvent s
  | clear => exact execClear_logsOneEvent s
  | sleep => exact execSleep_logsOneEvent s

theorem exec_log {i : Instr} {s t : State} (h : exec i s = .next t) : ∃ e, t.log = s.log ++ [e] := by
  simpa [h] using exec_logsOneEvent i s

/-! ## The host and the block reset -/

/-- A host write appends the Issue of an operation, or nothing (R43). -/
theorem State.writeTarget_log (s : State) (t : Target) (n : Nat) (v : Word) :
    (s.writeTarget t n v).log = s.log ∨ LogsOneEvent s.log (s.writeTarget t n v) := by
  obtain ⟨-, h⟩ | h | h | ⟨-, h | ⟨_, h⟩ | ⟨_, _, h⟩ | ⟨_, -, h⟩⟩ := s.writeTarget_cases t n v <;> rw [h]
  case inr.inr.inr.inl => exact .inr ⟨_, s.issue_log v⟩
  all_goals exact .inl rfl

theorem State.hostStep_log (s : State) : s.hostStep.log = s.log ∨ LogsOneEvent s.log s.hostStep := by
  obtain ⟨t, n, v, _, _, -, h⟩ | ⟨_, _, _, _, h⟩ := s.hostStep_cases <;> rw [h]
  · exact s.writeTarget_log t n v
  · exact .inl rfl

theorem State.blockReset_log (s : State) (contents : List Host.Cell) :
    (s.blockReset contents).log = s.log ++ [.blockReset] := rfl

/-- A step of any agent appends one event or none, and takes none away (R11, R40). -/
theorem step_log {s t : State} (h : step s = .next t) : t.log = s.log ∨ LogsOneEvent s.log t := by
  obtain ⟨contents, _, -, rfl⟩ | ⟨-, -, hx⟩ | ⟨-, rfl⟩ := step_cases h
  · exact .inr ⟨_, State.blockReset_log _ contents⟩
  · exact .inr (s.turnTaken_log ▸ exec_log hx)
  · exact s.turnTaken_log ▸ s.turnTaken.hostStep_log

/-- Settles O48: a step of an operation by its rule's positions, a step of the machine by the agent that moves. -/
theorem everyStepAppendsOneEvent : Obligations.EveryStepAppendsOneEvent :=
  ⟨fun _ _ _ h => exec_log h, fun _ _ h => step_log h⟩

end Sys2Proof.Machine
end

section
/-! PROOFS. What one step of the sequencer does (00_scope.md R11): one primitive, and an update of the registers that are
the operation's own. Statements about the frame of an operation follow from this and from what a primitive changes. -/

namespace Sys2Proof.Machine

/-! ## The primitives (R11) -/

/-- What appends the event of a sequencer's step: a primitive of 41_bus_primitives.md, or Done. A sample goes with the
busy count after it. -/
inductive Primitive where
  | setLine (l : Line) (b : Level)
  | busOpen
  | busWrite (bytes : List Byte)
  | busClose
  | sampleBusy (count : Nat)
  | delay (ms : Nat)
  | done (e : Err) (d : BitVec 2)

/-- The state after a primitive. -/
def State.perform (s : State) : Primitive → State
  | .setLine l b => s.setLine l b
  | .busOpen =>
    { s with
      env := s.env.drawOpen.2
      log := s.log ++ [.opened s.cfg.busClockHz s.cfg.busMode s.env.drawOpen.1]
      busOpen := if s.env.drawOpen.1 then true else s.busOpen }
  | .busWrite bytes => (s.busWrite bytes).2
  | .busClose => s.busClose
  | .sampleBusy count => { s.sampleBusy.2 with n := count }
  | .delay ms => s.delay ms
  | .done e d => s.raise e d

theorem State.perform_busOpen (s : State) : s.perform .busOpen = s.busOpenOp.2 := by
  cases h : s.env.drawOpen.1 <;> simp [State.perform, State.busOpenOp, State.emit, h]

/-- No primitive touches what the host owns, or the registers that an operation updates by itself. -/
theorem State.perform_frame (s : State) (p : Primitive) :
    ∃ err detail active pwr rst dc busOpen n timer log env,
      s.perform p = { s with
        err := err, detail := detail, active := active, pwr := pwr, rst := rst, dc := dc, busOpen := busOpen
        n := n, timer := timer, log := log, env := env } := by
  cases p with
  | setLine l b => cases l <;> exact ⟨_, _, _, _, _, _, _, _, _, _, _, rfl⟩
  | busOpen | busWrite | busClose | sampleBusy | delay | done => exact ⟨_, _, _, _, _, _, _, _, _, _, _, rfl⟩

/-- A primitive ends the operation exactly if it is Done; then ERR and DETAIL are those of its event (R43, R226). -/
theorem State.perform_active (s : State) (p : Primitive) :
    ((s.perform p).active = s.active ∧ (s.perform p).err = s.err ∧ (s.perform p).detail = s.detail ∧
        ∀ e d, (s.perform p).log ≠ s.log ++ [.done e d]) ∨
      ((s.perform p).active = false ∧
        (s.perform p).log = s.log ++ [.done (s.perform p).err (s.perform p).detail]) := by
  cases p with
  | done e d => exact .inr ⟨rfl, rfl⟩
  | setLine | busOpen | busWrite | busClose | sampleBusy | delay =>
    exact .inl (by simp [State.perform, State.busWrite, State.sampleBusy])

/-- A line moves only with its Line event, the bus only with an Open or a Close (R34, R35, R140, R141, R149). -/
theorem State.perform_lines (s : State) (p : Primitive) :
    ((s.perform p).pwr ≠ s.pwr → (s.perform p).log = s.log ++ [.line .pwr (s.perform p).pwr]) ∧
    ((s.perform p).rst ≠ s.rst → (s.perform p).log = s.log ++ [.line .rst (s.perform p).rst]) ∧
    ((s.perform p).dc ≠ s.dc → (s.perform p).log = s.log ++ [.line .dc (s.perform p).dc]) ∧
    ((s.perform p).busOpen ≠ s.busOpen →
      ((s.perform p).busOpen = true ∧
        (s.perform p).log = s.log ++ [.opened s.cfg.busClockHz s.cfg.busMode true]) ∨
      ((s.perform p).busOpen = false ∧ (s.perform p).log = s.log ++ [.close])) := by
  cases p with
  | setLine l b => cases l <;> simp [State.perform]
  | busOpen => cases h : s.env.drawOpen.1 <;> simp [State.perform, h]
  | busWrite | busClose | sampleBusy | delay | done =>
    simp [State.perform, State.busWrite, State.sampleBusy]

theorem Env.drawPoll_opens (e : Env) : e.drawPoll.2.opens = e.opens ∧ e.drawPoll.2.nOpen = e.nOpen := by
  unfold Env.drawPoll
  split <;> simp

theorem Env.drawWrite_opens (e : Env) (bytes : List Byte) :
    (e.drawWrite bytes).2.opens = e.opens ∧ (e.drawWrite bytes).2.nOpen = e.nOpen := by
  unfold Env.drawWrite
  split <;> simp

/-- The busy count changes only with a sample, the timer only with a delay, and the panel's answers to opens only with an
open; the BUSY_IN answers are the host's (R37, R148, R235). -/
theorem State.perform_counts (s : State) (p : Primitive) :
    ((s.perform p).n ≠ s.n → ∃ b, (s.perform p).log = s.log ++ [.poll b]) ∧
    ((s.perform p).timer ≠ s.timer → ∃ ms, (s.perform p).log = s.log ++ [.delay ms]) ∧
    (p ≠ .busOpen → (s.perform p).env.opens = s.env.opens ∧ (s.perform p).env.nOpen = s.env.nOpen) ∧
    (s.perform p).env.busyIns = s.env.busyIns ∧ (s.perform p).env.nBusyIn = s.env.nBusyIn := by
  cases p with
  | busOpen => simp [State.perform, s.env.drawOpen_frame]
  | busWrite bytes => simp [State.perform, State.busWrite, s.env.drawWrite_frame, s.env.drawWrite_opens]
  | sampleBusy => simp [State.perform, State.sampleBusy, s.env.drawPoll_frame, s.env.drawPoll_opens]
  | setLine | busClose | delay | done => simp [State.perform]

/-! ## The steps of each operation -/

/-- Which operations use a primitive, where not all may: the lines and the bus of the session are INIT's and SLEEP's
(R160, R210), the samples those of the operations that poll (R148), and WAIT_IDLE moves no line (R182). -/
def Primitive.usedBy (i : Instr) : Primitive → Prop
  | .setLine l _ => l = .dc ∧ i ≠ .waitIdle ∨ i = .init ∨ i = .sleep
  | .busOpen => i = .init
  | .busClose => i = .sleep
  | .sampleBusy _ => i = .init ∨ i = .waitIdle ∨ i = .render ∨ i = .refresh ∨ i = .clear
  | .busWrite _ | .delay _ | .done _ _ => True

/-- After a primitive that gave `u`, the operation `i` has updated by itself only registers that are its own. -/
structure OwnUpdates (i : Instr) (u t : State) : Prop where
  only : t = { u with
    fsm := t.fsm, errinfo := t.errinfo, pc := t.pc, i := t.i, j := t.j, k := t.k, p := t.p
    errPending := t.errPending, opnd := t.opnd }
  session : i ≠ .init → i ≠ .sleep → t.fsm = u.fsm
  pixels : i ≠ .render → t.errinfo = u.errinfo ∧ t.k = u.k ∧ t.p = u.p
  entries : i ≠ .init → t.i = u.i ∧ t.j = u.j
  failure : i ≠ .sleep → t.errPending = u.errPending
  operand : i ≠ .cmd → i ≠ .data → i ≠ .clear → t.opnd = u.opnd

/-- `t` is the state after one step of the operation `i`: one of its primitives, and updates of its own registers. -/
def OpStep (i : Instr) (s t : State) : Prop := ∃ p : Primitive, p.usedBy i ∧ OwnUpdates i (s.perform p) t

/-- A property of the next state of a step; a fault or a refusal leaves no state to speak of. -/
def Ensures (P : State → Prop) : Result → Prop
  | .next t => P t
  | .fault _ | .refused _ => True

@[simp] theorem ensures_next (P : State → Prop) (t : State) : Ensures P (.next t) ↔ P t := .rfl

@[simp] theorem ensures_fault (P : State → Prop) (f : Fault) : Ensures P (.fault f) := trivial

section
variable {i : Instr} {s t u : State}

theorem OwnUpdates.trans (h : OwnUpdates i s t) (h' : OwnUpdates i t u) : OwnUpdates i s u where
  only := by rw [h'.only, h.only]
  session hi hs := (h'.session hi hs).trans (h.session hi hs)
  pixels hr := by simp [h'.pixels hr, h.pixels hr]
  entries hi := by simp [h'.entries hi, h.entries hi]
  failure hs := (h'.failure hs).trans (h.failure hs)
  operand hc hd hl := (h'.operand hc hd hl).trans (h.operand hc hd hl)

/-- A primitive reads and changes none of the registers that an operation updates by itself. -/
theorem OwnUpdates.perform (h : OwnUpdates i s t) (p : Primitive) : OwnUpdates i (s.perform p) (t.perform p) := by
  have only := congrArg (·.perform p) h.only
  cases p with
  | setLine l b => cases l <;> exact ⟨only, h.session, h.pixels, h.entries, h.failure, h.operand⟩
  | busOpen | busWrite | busClose | sampleBusy | delay | done =>
    exact ⟨only, h.session, h.pixels, h.entries, h.failure, h.operand⟩

theorem OpStep.primitive {p : Primitive} (h : p.usedBy i) : OpStep i s (s.perform p) :=
  ⟨p, h, rfl, fun _ _ => rfl, fun _ => ⟨rfl, rfl, rfl⟩, fun _ => ⟨rfl, rfl⟩, fun _ => rfl, fun _ _ _ => rfl⟩

theorem OpStep.before (h : OwnUpdates i s t) (h' : OpStep i t u) : OpStep i s u :=
  let ⟨p, hp, hu⟩ := h'
  ⟨p, hp, (h.perform p).trans hu⟩

theorem OpStep.after (h : OpStep i s t) (h' : OwnUpdates i t u) : OpStep i s u :=
  let ⟨p, hp, hu⟩ := h
  ⟨p, hp, hu.trans h'⟩
  
theorem OwnUpdates.goto (s : State) (pc : Pc) : OwnUpdates i s (s.goto pc) :=
  ⟨rfl, fun _ _ => rfl, fun _ => ⟨rfl, rfl, rfl⟩, fun _ => ⟨rfl, rfl⟩, fun _ => rfl, fun _ _ _ => rfl⟩

@[simp] theorem OpStep.performGoto {p : Primitive} (h : p.usedBy i) (pc : Pc) : OpStep i s ((s.perform p).goto pc) :=
  (OpStep.primitive h).after (.goto _ pc)

@[simp] theorem OpStep.line {l : Line} {b : Level} {pc : Pc}
    (h : l = .dc ∧ i ≠ .waitIdle ∨ i = .init ∨ i = .sleep) : OpStep i s ((s.setLine l b).goto pc) :=
  .performGoto (p := .setLine l b) h pc

@[simp] theorem OpStep.delay {ms : Nat} {pc : Pc} : OpStep i s ((s.delay ms).goto pc) :=
  .performGoto (p := .delay ms) trivial pc

@[simp] theorem OpStep.pollWait {again : Pc} : OpStep i s (s.pollWait again) := .delay

@[simp] theorem OpStep.send {bytes : List Byte} {next : Pc} : OpStep i s (s.sendStep bytes next) :=
  s.sendStep_eq bytes next ▸ .performGoto (p := .busWrite bytes) trivial _

@[simp] theorem OpStep.raise {e : Err} {d : BitVec 2} : OpStep i s (s.raise e d) := .primitive (p := .done e d) trivial

@[simp] theorem OpStep.complete : OpStep i s s.complete := .raise

theorem OpStep.pollStep (h : (Primitive.sampleBusy 0).usedBy i) (wait exit : Pc) : OpStep i s (s.pollStep wait exit) := by
  obtain ⟨m, q, he, -⟩ := s.pollStep_cases wait exit
  exact he ▸ .performGoto (p := .sampleBusy m) h q

theorem OpStep.pollStart (h : (Primitive.sampleBusy 0).usedBy i) (wait exit : Pc) :
    OpStep i s (s.pollStart wait exit) := by
  obtain ⟨m, q, he, -⟩ := State.pollStep_cases { s with n := 0 } wait exit
  rw [State.pollStart, he]
  exact .performGoto (p := .sampleBusy m) h q

theorem OpStep.gated {go : State → State} (h : OpStep i s (go s)) : OpStep i s (s.gated go) := by
  cases hb : s.busOpen with
  | true => rwa [State.gated_open hb]
  | false => rw [State.gated_closed hb]; exact .raise

/-! ## The operations -/

theorem handshakeStep_opStep {i : Instr} (h : (Primitive.sampleBusy 0).usedBy i) (hi : i ≠ .waitIdle) (s : State)
    (n : Nat) : Ensures (OpStep i s) (handshakeStep s n) := by
  unfold handshakeStep
  split <;> simp [hi, OpStep.pollStep h, OpStep.pollStart h]

theorem execIllegal_opStep (opc : BitVec 4) (s : State) : Ensures (OpStep (.illegal opc) s) (execIllegal opc s) := by
  unfold execIllegal
  split <;> simp

theorem OwnUpdates.readsArg (hi : i = .cmd ∨ i = .data ∨ i = .clear) (s : State) (b : Byte) :
    OwnUpdates i s { s with opnd := b } :=
  ⟨rfl, fun _ _ => rfl, fun _ => ⟨rfl, rfl, rfl⟩, fun _ => ⟨rfl, rfl⟩, fun _ => rfl,
    fun hc hd hl => absurd hi (by simp [hc, hd, hl])⟩

theorem execCmd_opStep (s : State) : Ensures (OpStep .cmd s) (execCmd s) := by
  unfold execCmd
  split
  case h_1 => exact .before (.readsArg (.inl rfl) s _) (.gated (by simp))
  all_goals simp

theorem execData_opStep (s : State) : Ensures (OpStep .data s) (execData s) := by
  unfold execData
  split
  case h_1 => exact .before (.readsArg (.inr (.inl rfl)) s _) (.gated (by simp))
  all_goals simp

theorem execWaitIdle_opStep (s : State) : Ensures (OpStep .waitIdle s) (execWaitIdle s) := by
  have polls : (Primitive.sampleBusy 0).usedBy .waitIdle := .inr (.inl rfl)
  unfold execWaitIdle
  split
  case h_1 => exact .gated (.pollStart polls _ _)
  all_goals simp [OpStep.pollStep polls]

theorem OwnUpdates.render (s : State) (k p : Nat) (info : BitVec 19) :
    OwnUpdates .render s { s with k := k, p := p, errinfo := info } :=
  ⟨rfl, fun _ _ => rfl, fun h => absurd rfl h, fun _ => ⟨rfl, rfl⟩, fun _ => rfl, fun _ _ _ => rfl⟩

theorem execRender_opStep (s : State) : Ensures (OpStep .render s) (execRender s) := by
  unfold execRender
  split
  case h_1 =>
    split
    · cases h : firstInvalidCell s.fb with
      | none =>
        rw [State.validated_ok (firstInvalidCell_none.mp h)]
        exact .before (.render s s.k (npix - 1) s.errinfo) (.gated (by simp))
      | some p =>
        rw [State.validated_bad h]
        exact .before (.render s s.k p (BitVec.ofNat 19 p)) .raise
    · simp
  case h_4 => exact .before (.render s (frameBytes - 1) s.p s.errinfo) .send
  case h_5 n _ => exact handshakeStep_opStep (by simp [Primitive.usedBy]) (by simp) s n
  all_goals simp

theorem execRefresh_opStep (s : State) : Ensures (OpStep .refresh s) (execRefresh s) := by
  unfold execRefresh
  split
  case h_1 => exact .gated (by simp)
  case h_2 n _ => exact handshakeStep_opStep (by simp [Primitive.usedBy]) (by simp) s n
  all_goals simp

theorem execClear_opStep (s : State) : Ensures (OpStep .clear s) (execClear s) := by
  have reads := OwnUpdates.readsArg (i := .clear) (.inr (.inr rfl)) s s.argVal
  unfold execClear
  split
  case h_1 =>
    split
    · exact .before reads (.gated (by simp))
    · exact .before reads .raise
  case h_5 n _ => exact handshakeStep_opStep (by simp [Primitive.usedBy]) (by simp) s n
  all_goals simp

/-- INIT updates the FSM and the table's indexes (R161, R166, R168). -/
theorem OwnUpdates.init (s : State) (f : Fsm) (i j : Nat) (pc : Pc) :
    OwnUpdates .init s { s with fsm := f, i := i, j := j, pc := pc } :=
  ⟨rfl, fun h => absurd rfl h, fun _ => ⟨rfl, rfl, rfl⟩, fun h => absurd rfl h, fun _ => rfl, fun _ _ _ => rfl⟩

theorem State.initNextEntry_updates (s : State) : OwnUpdates .init s s.initNextEntry := by
  obtain ⟨-, h⟩ | ⟨-, h⟩ := s.initNextEntry_cases <;> rw [h]
  · exact .init s s.fsm (s.i + 1) s.j _
  · exact .goto s _

@[simp] theorem OpStep.initCommand (e : InitEntry) : OpStep .init s (s.initCommand e) := by
  have write : OpStep .init s (s.perform (.busWrite [e.cmd])) := .primitive trivial
  obtain ⟨t, ht, ⟨-, -, h⟩ | ⟨-, -, h⟩ | ⟨-, h⟩⟩ := s.initCommand_cases e <;> rw [h, ht]
  · exact write.after (State.initNextEntry_updates _)
  · exact write.after (.init _ _ _ 0 _)
  · exact write.after (.goto _ _)

@[simp] theorem OpStep.initData (e : InitEntry) (b : Byte) : OpStep .init s (s.initData e b) := by
  have write : OpStep .init s (s.perform (.busWrite [b])) := .primitive trivial
  obtain ⟨t, ht, ⟨-, -, h⟩ | ⟨-, -, h⟩ | ⟨-, h⟩⟩ := s.initData_cases e b <;> rw [h, ht]
  · exact write.after (.init _ _ _ _ _)
  · exact write.after (State.initNextEntry_updates _)
  · exact write.after (.goto _ _)

theorem execInit_opStep (s : State) : Ensures (OpStep .init s) (execInit s) := by
  have polls : (Primitive.sampleBusy 0).usedBy .init := .inl rfl
  unfold execInit
  split
  case h_1 =>
    split
    · simp
    · exact .before (.init s .poweredUp s.i s.j s.pc) (.line (.inr (.inl rfl)))
  case h_2 => exact s.initOpen_eq ▸ .performGoto (p := .busOpen) rfl _
  case h_12 => exact (OpStep.delay (pc := s.pc)).after (.init _ _ 0 _ _)
  case h_14 => split <;> simp
  case h_16 =>
    split
    · split <;> simp
    · simp
  case h_17 => exact .before (.init s .idle s.i s.j s.pc) .complete
  all_goals simp [OpStep.pollStep polls, OpStep.pollStart polls]

/-- SLEEP updates the FSM and its deferred failure (R210, R211). -/
theorem OwnUpdates.sleep (s : State) (f : Fsm) (b : Bool) (pc : Pc) :
    OwnUpdates .sleep s { s with fsm := f, errPending := b, pc := pc } :=
  ⟨rfl, fun _ h => absurd rfl h, fun _ => ⟨rfl, rfl, rfl⟩, fun _ => ⟨rfl, rfl⟩, fun h => absurd rfl h,
    fun _ _ _ => rfl⟩

@[simp] theorem OpStep.tryStep {bytes : List Byte} {next : Pc} : OpStep .sleep s (s.tryStep bytes next) :=
  s.tryStep_eq bytes next ▸ (OpStep.primitive (p := .busWrite bytes) trivial).after (.sleep _ _ _ _)

theorem execSleep_opStep (s : State) : Ensures (OpStep .sleep s) (execSleep s) := by
  unfold execSleep
  split
  case h_1 =>
    have starts := OwnUpdates.sleep s s.fsm false s.pc
    split
    · split <;> exact .before starts (.line (.inr (.inr rfl)))
    · simp
  case h_6 => exact .performGoto (p := .busClose) rfl _
  case h_10 =>
    have ends := OwnUpdates.sleep s .asleep s.errPending s.pc
    rw [ensures_next, State.sleepEnd]
    split
    · exact .before ends (.raise (e := .busIOFailure) (d := writeFailed))
    · exact .before ends .complete
  all_goals simp

/-- A step of an operation is one primitive of its rule, with updates of the operation's own registers (R11, R36). -/
theorem exec_ensures_opStep (i : Instr) (s : State) : Ensures (OpStep i s) (exec i s) := by
  cases i with
  | illegal opc => exact execIllegal_opStep opc s
  | init => exact execInit_opStep s
  | cmd => exact execCmd_opStep s
  | data => exact execData_opStep s
  | waitIdle => exact execWaitIdle_opStep s
  | render => exact execRender_opStep s
  | refresh => exact execRefresh_opStep s
  | clear => exact execClear_opStep s
  | sleep => exact execSleep_opStep s

theorem exec_opStep {i : Instr} {s t : State} (h : exec i s = .next t) : OpStep i s t := by
  simpa [h] using exec_ensures_opStep i s

end
end Sys2Proof.Machine
end

section
/-! PROOFS. The frame of every operation, and with which events the lines, the bus and ACTIVE change (10_state.md R34, R35,
R43, R68). -/

namespace Sys2Proof.Machine

section
variable {i : Instr} {s t : State} {p : Primitive}

/-! ## What the primitives of an operation leave -/

/-- Only INIT and SLEEP move PWR and RST and open or close the bus. -/
theorem State.perform_session (hp : p.usedBy i) (hi : i ≠ .init) (hs : i ≠ .sleep) (s : State) :
    (s.perform p).pwr = s.pwr ∧ (s.perform p).rst = s.rst ∧ (s.perform p).busOpen = s.busOpen := by
  cases p with
  | setLine l b =>
    obtain ⟨rfl, -⟩ | rfl | rfl := hp
    · exact ⟨rfl, rfl, rfl⟩
    · exact absurd rfl hi
    · exact absurd rfl hs
  | busOpen => exact absurd hp hi
  | busClose => exact absurd hp hs
  | busWrite | sampleBusy | delay | done => exact ⟨rfl, rfl, rfl⟩

/-- WAIT_IDLE leaves DC (R182). -/
theorem State.perform_waitIdle_dc (hp : p.usedBy .waitIdle) (s : State) : (s.perform p).dc = s.dc := by
  cases p with
  | setLine l b => simp [Primitive.usedBy] at hp
  | busOpen | busWrite | busClose | sampleBusy | delay | done => rfl

/-- The busy count is the polling operations' (R148). -/
theorem State.perform_n (hp : p.usedBy i) (hi : i ≠ .init) (hw : i ≠ .waitIdle) (hr : i ≠ .render) (hf : i ≠ .refresh)
    (hc : i ≠ .clear) (s : State) : (s.perform p).n = s.n := by
  cases p with
  | setLine l b => exact s.setLine_n l b
  | sampleBusy => simp [Primitive.usedBy, hi, hw, hr, hf, hc] at hp
  | busOpen | busWrite | busClose | delay | done => rfl

/-! ## What a step of an operation does -/

/-- A step of an operation leaves what the host owns, the configuration and the operation code. -/
theorem OpStep.frame (h : OpStep i s t) :
    t.cfg = s.cfg ∧ t.argVal = s.argVal ∧ t.canvasW = s.canvasW ∧ t.canvasH = s.canvasH ∧ t.rej = s.rej ∧ t.op = s.op ∧
      t.fb = s.fb ∧ t.hostProg = s.hostProg ∧ t.resp = s.resp ∧ t.sched = s.sched ∧ t.turns = s.turns ∧
      t.hostLeft = s.hostLeft := by
  obtain ⟨p, -, hu⟩ := h
  obtain ⟨_, _, _, _, _, _, _, _, _, _, _, hp⟩ := s.perform_frame p
  rw [hu.only, hp]
  simp

theorem OpStep.active (h : OpStep i s t) :
    (t.active = s.active ∧ t.err = s.err ∧ t.detail = s.detail ∧ ∀ e d, t.log ≠ s.log ++ [.done e d]) ∨
      (t.active = false ∧ t.log = s.log ++ [.done t.err t.detail]) := by
  obtain ⟨p, -, hu⟩ := h
  rw [hu.only]
  exact s.perform_active p

theorem OpStep.lines (h : OpStep i s t) :
    (t.pwr ≠ s.pwr → t.log = s.log ++ [.line .pwr t.pwr]) ∧ (t.rst ≠ s.rst → t.log = s.log ++ [.line .rst t.rst]) ∧
    (t.dc ≠ s.dc → t.log = s.log ++ [.line .dc t.dc]) ∧
    (t.busOpen ≠ s.busOpen →
      (t.busOpen = true ∧ t.log = s.log ++ [.opened s.cfg.busClockHz s.cfg.busMode true]) ∨
      (t.busOpen = false ∧ t.log = s.log ++ [.close])) := by
  obtain ⟨p, -, hu⟩ := h
  rw [hu.only]
  exact s.perform_lines p

theorem OpStep.counts (h : OpStep i s t) :
    (t.n ≠ s.n → ∃ b, t.log = s.log ++ [.poll b]) ∧ (t.timer ≠ s.timer → ∃ ms, t.log = s.log ++ [.delay ms]) ∧
    (i ≠ .init → t.env.opens = s.env.opens ∧ t.env.nOpen = s.env.nOpen) ∧
    t.env.busyIns = s.env.busyIns ∧ t.env.nBusyIn = s.env.nBusyIn := by
  obtain ⟨p, hp, hu⟩ := h
  obtain ⟨hn, ht, ho, hb⟩ := s.perform_counts p
  rw [hu.only]
  exact ⟨hn, ht, fun hi => ho fun h => hi (by rwa [h] at hp), hb⟩

/-- The session is INIT's and SLEEP's, and WAIT_IDLE leaves DC too. -/
theorem OpStep.session (h : OpStep i s t) :
    (i ≠ .init → i ≠ .sleep → t.fsm = s.fsm ∧ t.pwr = s.pwr ∧ t.rst = s.rst ∧ t.busOpen = s.busOpen) ∧
      (i = .waitIdle → t.dc = s.dc) := by
  obtain ⟨p, hp, hu⟩ := h
  obtain ⟨_, _, _, _, _, _, _, _, _, _, _, hf⟩ := s.perform_frame p
  refine ⟨fun hi hs => ⟨(hu.session hi hs).trans (by rw [hf]), ?_⟩, ?_⟩ <;> rw [hu.only]
  · exact s.perform_session hp hi hs
  · rintro rfl
    exact s.perform_waitIdle_dc hp

/-- Each operation updates only the hidden registers that its rule names (R36). -/
theorem OpStep.registers (h : OpStep i s t) :
    (i ≠ .render → t.errinfo = s.errinfo ∧ t.k = s.k ∧ t.p = s.p) ∧ (i ≠ .init → t.i = s.i ∧ t.j = s.j) ∧
    (i ≠ .sleep → t.errPending = s.errPending) ∧ (i ≠ .cmd → i ≠ .data → i ≠ .clear → t.opnd = s.opnd) ∧
    (i ≠ .init → i ≠ .waitIdle → i ≠ .render → i ≠ .refresh → i ≠ .clear → t.n = s.n) := by
  obtain ⟨p, hp, hu⟩ := h
  obtain ⟨_, _, _, _, _, _, _, _, _, _, _, hf⟩ := s.perform_frame p
  have pixels := hu.pixels
  have entries := hu.entries
  have failure := hu.failure
  have operand := hu.operand
  rw [hf] at pixels entries failure operand
  refine ⟨pixels, entries, failure, operand, fun hi hw hr hf hc => ?_⟩
  rw [hu.only]
  exact s.perform_n hp hi hw hr hf hc

end

/-- Settles O50: each step is one primitive of the operation's rule, and updates of the operation's own registers. -/
theorem operationsLeaveHostStateUnchanged : Obligations.OperationsLeaveHostStateUnchanged := by
  intro i s t h
  have hstep := exec_opStep h
  obtain ⟨hcfg, harg, hw, hh, hrej, hop, hfb, hprog, hresp, hsched, hturns, hleft⟩ := hstep.frame
  obtain ⟨hn, htimer, hopens, hins, hnIns⟩ := hstep.counts
  obtain ⟨hsession, hdc⟩ := hstep.session
  obtain ⟨hpixels, hentries, hfailure, hoperand, hsamples⟩ := hstep.registers
  refine ⟨hcfg, harg, hw, hh, hrej, hop, fun a => by rw [hfb], hprog, hresp, hsched, hturns, hleft, hins, hnIns,
    hsession, hpixels, hentries, hfailure, hoperand, hsamples, hn, htimer, fun h => ?_, hdc, fun ha => ?_⟩
  · by_contra hi
    obtain ⟨ho, hno⟩ := hopens hi
    exact h.elim (· ho) (· hno)
  · obtain ⟨-, he, hd, -⟩ | ⟨hf, -⟩ := hstep.active
    · exact ⟨he, hd⟩
    · rw [hf] at ha
      cases ha

end Sys2Proof.Machine
end

section
/-! PROOFS. The host port, the agents and the block reset (10_state.md R20 to R29, R42, R43; 20_memory.md R61, R62, R74). -/

namespace Sys2Proof.Machine

/-! ## Accesses inside the window -/

/-- An offset below 1 MiB is inside the window (R22, R61). -/
theorem windowOffset_base {c : Config} {off : Nat} (h : off < 0x100000) :
    windowOffset c (c.hostBase + off) = some off := by
  unfold windowOffset
  rw [if_pos (by omega), Nat.add_sub_cancel_left]

theorem State.hostWrite_legal {s : State} {addr off n : Nat} {t : Target} (ho : windowOffset s.cfg addr = some off)
    (ht : hostTarget off n = some t) (v : Word) :
    s.hostWrite addr n v = { s.writeTarget t n v with resp := .written } := by
  simp only [State.hostWrite, ho, ht]

theorem State.hostRead_legal {s : State} {addr off n : Nat} {t : Target} (ho : windowOffset s.cfg addr = some off)
    (ht : hostTarget off n = some t) :
    s.hostRead addr n = { s with env := (s.readTarget t n).2, resp := .value (s.readTarget t n).1 } := by
  simp only [State.hostRead, ho, ht]

/-- The registers and their offsets (R22). -/
def Target.registerOffset : Target → Option Nat
  | .op => some 0x00000
  | .arg => some 0x00004
  | .canvas => some 0x00008
  | .status => some 0x0000C
  | .errinfo => some 0x00010
  | .fb _ => none

theorem State.hostWrite_register {t : Target} {off : Nat} (h : t.registerOffset = some off) (s : State) (v : Word) :
    s.hostWrite (s.cfg.hostBase + off) 4 v = { s.writeTarget t 4 v with resp := .written } := by
  cases t <;> cases h <;> exact State.hostWrite_legal (windowOffset_base (by decide)) rfl v

theorem State.hostRead_register {t : Target} {off : Nat} (h : t.registerOffset = some off) (s : State) :
    s.hostRead (s.cfg.hostBase + off) 4 =
      { s with env := (s.readTarget t 4).2, resp := .value (s.readTarget t 4).1 } := by
  cases t <;> cases h <;> exact State.hostRead_legal (windowOffset_base (by decide)) rfl

theorem hostTarget_status {off n : Nat} (h : hostTarget off n = some .status) : off = 0x0000C ∧ n = 4 := by
  unfold hostTarget at h
  split_ifs at h with h1 h2 h3 h4
  all_goals simp_all

/-- A write while an operation is active is dropped and sets REJ (R27). -/
theorem State.unlessActive_dropped {s : State} (ha : s.active = true) (t : State) :
    s.unlessActive t = { s with rej := true } := by
  simp [State.unlessActive, ha]

theorem State.unlessActive_stored {s : State} (ha : s.active = false) (t : State) : s.unlessActive t = t := by
  simp [State.unlessActive, ha]

/-! ## REJ (R27) -/

/-- A write to STATUS clears REJ if bit 15 is 1, and does nothing else. -/
theorem State.writeTarget_status (s : State) (n : Nat) (v : Word) :
    s.writeTarget .status n v = { s with rej := if v.getLsbD 15 then false else s.rej } := by
  unfold State.writeTarget
  cases v.getLsbD 15 <;> rfl

/-- Only a write to STATUS with bit 15 clears REJ. -/
theorem State.writeTarget_clears_rej {s : State} {t : Target} {n : Nat} {v : Word} (h : s.rej = true)
    (h' : (s.writeTarget t n v).rej = false) : t = .status ∧ v.getLsbD 15 = true := by
  cases t with
  | status =>
    rw [State.writeTarget_status, h] at h'
    exact ⟨rfl, by simpa using h'⟩
  | errinfo => simp [State.writeTarget, h] at h'
  | op | arg | canvas | fb a => cases ha : s.active <;> simp [State.writeTarget, State.unlessActive, ha, h] at h'

theorem State.hostWrite_clears_rej {s : State} {addr n : Nat} {v : Word} (h : s.rej = true)
    (h' : (s.hostWrite addr n v).rej = false) :
    n = 4 ∧ windowOffset s.cfg addr = some 0x0000C ∧ v.getLsbD 15 = true := by
  unfold State.hostWrite at h'
  split at h'
  · simp [h] at h'
  · rename_i off ho
    split at h'
    · simp [h] at h'
    · rename_i t ht
      obtain ⟨rfl, hv⟩ := State.writeTarget_clears_rej h h'
      obtain ⟨rfl, rfl⟩ := hostTarget_status ht
      exact ⟨rfl, ho, hv⟩

theorem State.hostRead_rej (s : State) (addr n : Nat) : (s.hostRead addr n).rej = s.rej := by
  unfold State.hostRead
  split
  · rfl
  · split <;> rfl

theorem State.hostStep_clears_rej {s : State} (h : s.rej = true) (h' : s.hostStep.rej = false) :
    ∃ addr v items, s.hostProg = .write addr 4 v :: items ∧ windowOffset s.cfg addr = some 0x0000C ∧
      v.getLsbD 15 = true := by
  unfold State.hostStep at h'
  split at h'
  · simp [h] at h'
  · rename_i addr n v items hp
    obtain ⟨rfl, ho, hv⟩ := State.hostWrite_clears_rej h h'
    exact ⟨addr, v, items, hp, ho, hv⟩
  · simp [State.hostRead_rej, h] at h'
  · dsimp only at h'
    split at h' <;> simp [h] at h'

/-! ## What the host leaves -/

/-- No access of the host touches the configuration, the FSM, the lines or the bus. -/
theorem State.hostStep_frame (s : State) :
    s.hostStep.cfg = s.cfg ∧ s.hostStep.fsm = s.fsm ∧ s.hostStep.pwr = s.pwr ∧ s.hostStep.rst = s.rst ∧
      s.hostStep.dc = s.dc ∧ s.hostStep.busOpen = s.busOpen := by
  obtain ⟨t, n, v, _, _, -, h⟩ | ⟨_, _, _, _, h⟩ := s.hostStep_cases <;> rw [h]
  · obtain ⟨-, h⟩ | h | h | ⟨-, h | ⟨_, h⟩ | ⟨_, _, h⟩ | ⟨_, -, h⟩⟩ := s.writeTarget_cases t n v <;> rw [h] <;>
      exact ⟨rfl, rfl, rfl, rfl, rfl, rfl⟩
  · exact ⟨rfl, rfl, rfl, rfl, rfl, rfl⟩

/-- Settles O51: a step of an operation or of the host leaves the configuration, and a block reset keeps it. -/
theorem noStepChangesTheConfiguration : Obligations.NoStepChangesTheConfiguration := by
  intro s t h
  obtain ⟨_, _, -, rfl⟩ | ⟨-, -, hx⟩ | ⟨-, rfl⟩ := step_cases h
  · rfl
  · exact (exec_opStep hx).frame.1.trans s.turnTaken_cfg
  · exact s.turnTaken.hostStep_frame.1.trans s.turnTaken_cfg

/-- Settles O49: a primitive of the step accounts for a line or the bus that changes; the host's step moves none. -/
theorem onlySetLineMovesALine : Obligations.OnlySetLineMovesALine := by
  intro s t h hsched
  obtain ⟨contents, rest, hs, -⟩ | ⟨-, -, hx⟩ | ⟨-, rfl⟩ := step_cases h
  · exact absurd hs (hsched contents rest)
  · simpa using (exec_opStep hx).lines
  · obtain ⟨-, -, hpwr, hrst, hdc, hbus⟩ := s.turnTaken.hostStep_frame
    simp [hpwr, hrst, hdc, hbus]

/-- Settles O6: the issue by the OP write, and the end of an operation by the primitive Done. -/
theorem issueAndCompletion : Obligations.IssueAndCompletion := by
  refine ⟨fun s v ha => ?_, fun i s t ha h => ?_⟩
  · rw [← Nat.add_zero s.cfg.hostBase, State.hostWrite_register (t := .op) rfl]
    simp [State.writeTarget, State.unlessActive, ha, State.issue, State.emit, opcOf]
  · obtain ⟨hact, -, -, hlog⟩ | hends := (exec_opStep h).active
    · exact .inl ⟨hact.trans ha, hlog⟩
    · exact .inr hends

/-- Settles O7: the lock of R27 at the port, the frame of the operations, and the agents of a step. -/
theorem writesWhileActiveAreDropped : Obligations.WritesWhileActiveAreDropped := by
  refine ⟨fun s addr off n v t ho ht ha hlocked => ?_, fun s v => ?_, fun i s t h => ?_, fun s contents => rfl,
    fun s t h hr hr' => ?_⟩
  · rw [State.hostWrite_legal ho ht]
    obtain rfl | rfl | rfl | ⟨a, rfl⟩ := hlocked <;> simp only [State.writeTarget, State.unlessActive_dropped ha]
  · rw [State.hostWrite_register (t := .status) rfl, State.writeTarget_status]
  · obtain ⟨-, -, -, -, hrej, -⟩ := (exec_opStep h).frame
    exact hrej
  · obtain ⟨contents, rest, hs, -⟩ | ⟨-, -, hx⟩ | ⟨-, rfl⟩ := step_cases h
    · exact .inl ⟨contents, rest, hs⟩
    · obtain ⟨-, -, -, -, hrej, -⟩ := (exec_opStep hx).frame
      rw [hrej, s.turnTaken_rej, hr] at hr'
      cases hr'
    · have := State.hostStep_clears_rej (s.turnTaken_rej.trans hr) hr'
      rw [s.turnTaken_hostProg, s.turnTaken_cfg] at this
      exact .inr this

/-! ## The agents -/

theorem step_of_sequencer {s : State} (h : s.mover = .sequencer) : step s = exec (decodeOpc s.op) s.turnTaken := by
  simp [step, State.agentStep, h, State.dpcStep]

/-- Settles O4: who moves is `State.mover`, and the sequencer's step is exec after the turn is taken. -/
theorem stepRunsTheDecodedOperation : Obligations.StepRunsTheDecodedOperation := by
  refine ⟨fun s rest ha => ⟨fun hs => ?_, fun hs hp => ?_, fun hs hp => ?_, fun hs hp ht => ?_, fun left hs hp ht => ?_⟩,
    fun s nbits w => ?_⟩
  · rw [step_of_sequencer (by simp [State.mover, hs, ha]), State.turnTaken_cons hs]
  · rw [step_of_sequencer (by simp [State.mover, hs, ha, hp]), State.turnTaken_cons hs]
  · rw [step_of_sequencer (by simp [State.mover, hs, ha, hp])]
    simp [State.turnTaken, hs, hp]
  · rw [step_of_sequencer (by simp [State.mover, hs, ha, ht])]
    simp [State.turnTaken, hs, ha, hp, ht]
  · have hm : s.mover = .host := by simp [State.mover, hs, hp, ht]
    obtain ⟨-, left', ht', htaken⟩ := State.mover_host_past_end hs ha hm
    obtain rfl : left' = left := Nat.succ.inj (ht'.symm.trans ht)
    simp only [step, State.agentStep, hm, htaken]
  · rfl

/-- Settles O14: the block reset's turn, with the framebuffer contents that its turn carries. -/
theorem blockResetEndsEverything : Obligations.BlockResetEndsEverything := by
  intro s contents rest hs
  have hm : s.mover = .blockReset contents := State.mover_blockReset.mpr ⟨rest, hs⟩
  refine ⟨{ s with sched := rest }.blockReset contents, ?_, rfl, rfl⟩
  simp only [step, State.agentStep, hm, State.turnTaken_cons hs]

/-! ## The registers -/

theorem argWord_eq_and (v : Word) : 0#24 ++ v.extractLsb' 0 8 = v &&& 0x000000FF#32 := by
  refine BitVec.eq_of_getLsbD_eq fun k hk => (BitVec.getLsbD_append ..).trans ?_
  rw [BitVec.getLsbD_and]
  interval_cases k <;> simp

theorem halves_append (v : Word) : v.extractLsb' 16 16 ++ v.extractLsb' 0 16 = v := by
  refine BitVec.eq_of_getLsbD_eq fun k hk => (BitVec.getLsbD_append ..).trans ?_
  rw [BitVec.getLsbD_extractLsb', BitVec.getLsbD_extractLsb']
  split
  · simp [*]
  · simp [show k - 16 < 16 by omega, show 16 + (k - 16) = k by omega]

/-- Settles O11: each register at its offset, by what a read and a write of it do. -/
theorem registersReadBackAsDescribed : Obligations.RegistersReadBackAsDescribed := by
  intro s v
  refine ⟨State.hostRead_register (t := .op) rfl s, State.hostRead_register (t := .arg) rfl s,
    State.hostRead_register (t := .canvas) rfl s, State.hostRead_register (t := .errinfo) rfl s,
    State.hostWrite_register (t := .errinfo) rfl s v, fun ha => ⟨⟨?_, ?_⟩, ?_, ?_⟩⟩
  · rw [State.hostWrite_register (t := .arg) rfl, State.writeTarget, State.unlessActive_stored ha]
  · rw [State.hostWrite_register (t := .arg) rfl, State.writeTarget, State.unlessActive_stored ha, ← argWord_eq_and]
    exact State.hostRead_register (t := .arg) rfl _
  · rw [State.hostWrite_register (t := .canvas) rfl, State.writeTarget, State.unlessActive_stored ha]
  · rw [State.hostWrite_register (t := .canvas) rfl, State.writeTarget, State.unlessActive_stored ha]
    refine (State.hostRead_register (t := .canvas) rfl _).trans ?_
    simp only [State.readTarget, State.canvasWord, halves_append]

section
variable (s : State) (b : Level)

theorem State.statusWord_err : (s.statusWord b).extractLsb' 4 3 = s.err.code := by
  refine BitVec.eq_of_getLsbD_eq fun k hk => ?_
  simp only [BitVec.getLsbD_extractLsb', State.statusWord_getLsbD, BitVec.getLsbD_append, hk, bit]
  interval_cases k <;> simp

theorem State.statusWord_detail : (s.statusWord b).extractLsb' 8 2 = s.detail := by
  refine BitVec.eq_of_getLsbD_eq fun k hk => ?_
  simp only [BitVec.getLsbD_extractLsb', State.statusWord_getLsbD, BitVec.getLsbD_append, hk, bit]
  interval_cases k <;> simp

/-- The reserved bits read 0. -/
theorem State.statusWord_reserved :
    (s.statusWord b).getLsbD 7 = false ∧ (s.statusWord b).extractLsb' 10 5 = 0#5 ∧
      (s.statusWord b).extractLsb' 21 11 = 0#11 := by
  refine ⟨?_, BitVec.eq_of_getLsbD_eq fun k hk => ?_, BitVec.eq_of_getLsbD_eq fun k hk => ?_⟩ <;>
    simp only [BitVec.getLsbD_extractLsb', State.statusWord_getLsbD, BitVec.getLsbD_append, bit]
  · simp
  · interval_cases k <;> simp
  · interval_cases k <;> simp

/-- REJ, the lines, the bus and BUSY_IN, bits 15 to 20. -/
theorem State.statusWord_bits :
    (s.statusWord b).getLsbD 15 = s.rej ∧ (s.statusWord b).getLsbD 16 = s.pwr ∧ (s.statusWord b).getLsbD 17 = s.rst ∧
      (s.statusWord b).getLsbD 18 = s.dc ∧ (s.statusWord b).getLsbD 19 = s.busOpen ∧ (s.statusWord b).getLsbD 20 = b := by
  simp only [State.statusWord_getLsbD, BitVec.getLsbD_append, bit]
  simp

end

/-- Settles O10: a read of STATUS returns `State.statusWord`, which is read field by field. -/
theorem statusReadsEveryFieldAtItsPlace : Obligations.StatusReadsEveryFieldAtItsPlace := by
  intro s
  have hstate := s.statusWord_state s.env.drawBusyIn.1
  have herr := s.statusWord_err s.env.drawBusyIn.1
  obtain ⟨h7, h10, h21⟩ := s.statusWord_reserved s.env.drawBusyIn.1
  obtain ⟨hrej, hpwr, hrst, hdc, hbus, hbusy⟩ := s.statusWord_bits s.env.drawBusyIn.1
  refine ⟨s.statusWord s.env.drawBusyIn.1, State.hostRead_register (t := .status) rfl s, hstate.trans ?_,
    s.statusWord_active _, herr.trans ?_, h7, s.statusWord_detail _, h10, hrej, hpwr, hrst, hdc, hbus, hbusy, h21⟩
  · unfold State.reportedState
    cases s.active <;> cases s.fsm <;> rfl
  · cases s.err <;> rfl

end Sys2Proof.Machine
end

section
/-! PROOFS. The invariant: what it does not read, and the steps after which it is rebuilt (10_state.md R31, R41). -/

namespace Sys2Proof.Machine

section
variable {s t : State}

/-! ## What the invariant does not read -/

/-- Every operation may stand at its first step. -/
theorem positionOk_of_start (hpc : s.pc = .rule 0) : positionOk s := by
  unfold positionOk
  split <;> simp [initOk, rawOk, waitOk, frameOk, refreshOk, sleepOk, hpc]

/-- The flags and the session are untouched by the counters, the operand, the host's registers and side, the framebuffer
and the panel's answers. -/
theorem State.Inv.sameSession (hi : s.Inv)
    (ht : t = { s with
      argVal := t.argVal, canvasW := t.canvasW, canvasH := t.canvasH, rej := t.rej, k := t.k, p := t.p, opnd := t.opnd
      fb := t.fb, env := t.env, hostProg := t.hostProg, resp := t.resp, sched := t.sched, turns := t.turns
      hostLeft := t.hostLeft })
    (hmem : Memory.wf t.fb = true) (hk : t.k < frameBytes) (hp : t.p < npix)
    (hpos : t.active = true → positionOk t) : t.Inv := by
  obtain ⟨hcfg, -, ⟨hclear, hdetail, hinfo, hbound⟩, ⟨hidx, -, -, hn⟩, ⟨hreleased, hpowered, hopened⟩, -⟩ := hi
  rw [ht] at hmem hk hp hpos ⊢
  exact ⟨hcfg, hmem, ⟨hclear, hdetail, hinfo, hbound⟩, ⟨hidx, hk, hp, hn⟩, ⟨hreleased, hpowered, hopened⟩, hpos⟩

theorem State.Inv.sameButHost (hi : s.Inv)
    (ht : t = { s with
      argVal := t.argVal, canvasW := t.canvasW, canvasH := t.canvasH, rej := t.rej, env := t.env
      hostProg := t.hostProg, resp := t.resp, sched := t.sched, turns := t.turns, hostLeft := t.hostLeft }) : t.Inv := by
  rw [ht]
  exact hi.sameSession rfl hi.memory hi.counters.pair hi.counters.pixel hi.position

/-- The registers that an operation reads in its first step (R180, R181, R191, R199). -/
theorem State.Inv.reads (hi : s.Inv) (hpc : s.pc = .rule 0) (b : Byte) {q : Nat} (hq : q < npix) :
    State.Inv { s with opnd := b, p := q } :=
  hi.sameSession rfl hi.memory hi.counters.pair hq fun _ => positionOk_of_start hpc

/-- The pixel-pair index of RENDER's bulk write (R193). -/
theorem State.Inv.sendsBulk (hi : s.Inv) : State.Inv { s with k := frameBytes - 1 } :=
  hi.sameSession rfl hi.memory (Nat.lt_succ_self _) hi.counters.pixel hi.position

/-! ## The host and the block reset -/

theorem errinfo_zero_lt : (0#19).toNat < npix := by decide

/-- The state after a reset is good, whatever the framebuffer, the log and the host's side hold. -/
theorem State.inv_of_reset
    (hs : s = { State.reset with
      cfg := s.cfg, fb := s.fb, log := s.log, env := s.env, hostProg := s.hostProg, resp := s.resp, sched := s.sched
      turns := s.turns, hostLeft := s.hostLeft })
    (hcfg : configOk s.cfg = true) (hmem : Memory.wf s.fb = true) : s.Inv := by
  rw [hs] at hcfg hmem ⊢
  exact ⟨hcfg, hmem, ⟨nofun, fun _ => rfl, fun _ => rfl, errinfo_zero_lt⟩,
    ⟨Nat.succ_pos _, Nat.succ_pos _, Nat.succ_pos _, fun _ _ => Nat.zero_le _⟩,
    ⟨fun _ => ⟨rfl, rfl, rfl, rfl⟩, nofun, nofun⟩, nofun⟩

theorem State.Inv.blockReset (hi : s.Inv) (contents : List Host.Cell) : (s.blockReset contents).Inv :=
  State.inv_of_reset rfl hi.config (Memory.wf_ofCells contents)

theorem State.Inv.issue (hi : s.Inv) (ha : s.active = false) (v : Word) : (s.issue v).Inv := by
  have up : ¬ s.tearingDown := fun h => by simpa [ha] using h.1
  obtain ⟨hcfg, hmem, -, ⟨hidx, hk, hp, hn⟩, ⟨hreleased, hpowered, hopened⟩, -⟩ := hi
  exact ⟨hcfg, hmem, ⟨fun _ => ⟨rfl, rfl, rfl⟩, fun _ => rfl, fun _ => rfl, errinfo_zero_lt⟩, ⟨hidx, hk, hp, hn⟩,
    ⟨hreleased, fun h => .inl ((hpowered h).resolve_right up), fun h => .inl ((hopened h).resolve_right up)⟩,
    fun _ => positionOk_of_start rfl⟩

theorem State.Inv.writeTarget (hi : s.Inv) {t : Target} {n : Nat} (hin : ∀ a, t = .fb a → a + n ≤ npix) (v : Word) :
    (s.writeTarget t n v).Inv := by
  obtain ⟨-, h⟩ | h | h | ⟨ha, h | ⟨_, h⟩ | ⟨_, _, h⟩ | ⟨a, rfl, h⟩⟩ := s.writeTarget_cases t n v <;> rw [h]
  · exact hi.sameButHost rfl
  · exact hi
  · exact hi.sameButHost rfl
  · exact hi.issue ha v
  · exact hi.sameButHost rfl
  · exact hi.sameButHost rfl
  · exact hi.sameSession rfl (Memory.wf_writeBytes hi.memory (hin a rfl)) hi.counters.pair hi.counters.pixel
      fun h => by simp [ha] at h

theorem State.Inv.hostStep (hi : s.Inv) : s.hostStep.Inv := by
  obtain ⟨t, n, v, _, _, hin, h⟩ | ⟨_, _, _, _, h⟩ := s.hostStep_cases <;> rw [h]
  · exact (hi.writeTarget hin v).sameButHost rfl
  · exact hi.sameButHost rfl

theorem State.Inv.turnTaken (hi : s.Inv) : s.turnTaken.Inv := by
  obtain ⟨_, _, _, h⟩ := s.turnTaken_frame
  rw [h]
  exact hi.sameButHost rfl

end
end Sys2Proof.Machine
end

section
/-! PROOFS. The invariant over the sequencer's primitives: a step that goes on keeps the session, and the operation's own
position is what is left to show; a step that ends the operation needs none. -/

namespace Sys2Proof.Machine

section
variable {s t : State}

/-! ## Operations other than SLEEP, with the bus open -/

/-- The bus is open in a session only (R31, R35). -/
theorem State.Inv.sessionLive_of_open (hi : s.Inv) (hb : s.busOpen = true) : s.sessionLive = true := by
  by_contra h
  obtain ⟨-, -, -, hclosed⟩ := hi.session.released (Bool.not_eq_true _ ▸ h)
  rw [hb] at hclosed
  cases hclosed

theorem State.Inv.notTearingDown {i : Instr} (hop : decodeOpc s.op = i) (hne : i ≠ .sleep) : ¬ s.tearingDown :=
  fun h => hne (hop.symm.trans h.2.1)

/-- The primitives after which an operation goes on with PWR and the bus as they were; RST moves in INIT's pulse only. -/
def Primitive.goesOn (s : State) : Primitive → Prop
  | .setLine l _ => l = .dc ∨ l = .rst ∧ s.fsm = .poweredUp
  | .busWrite _ | .sampleBusy _ | .delay _ => True
  | .busOpen | .busClose | .done _ _ => False

theorem State.perform_goesOn {p : Primitive} (hp : p.goesOn s) :
    (s.perform p).err = s.err ∧ (s.perform p).detail = s.detail ∧ (s.perform p).pwr = s.pwr ∧
      (s.perform p).busOpen = s.busOpen ∧ (s.fsm = .idle → (s.perform p).rst = s.rst) := by
  cases p with
  | setLine l b =>
    obtain rfl | ⟨rfl, hf⟩ := hp
    · exact ⟨rfl, rfl, rfl, rfl, fun _ => rfl⟩
    · exact ⟨rfl, rfl, rfl, rfl, fun h => by simp [hf] at h⟩
  | busOpen | busClose | done => exact hp.elim
  | busWrite | sampleBusy | delay => exact ⟨rfl, rfl, rfl, rfl, fun _ => rfl⟩

/-- An operation goes on after such a primitive: its position and INIT's table index are what is left to show. -/
theorem State.Inv.performs (hi : s.Inv) (ha : s.active = true) (hs : decodeOpc s.op ≠ .sleep) (hb : s.busOpen = true)
    {p : Primitive} (hp : p.goesOn s) (ht : t = { s.perform p with pc := t.pc, i := t.i, j := t.j })
    (hidx : t.i < initTableLen) (hn : ∀ limit, s.cfg.busyTimeoutPolls = some limit → t.n ≤ limit)
    (hpos : positionOk t) : t.Inv := by
  obtain ⟨herr, hdet, hpwr, hbus, hrst⟩ : t.err = s.err ∧ t.detail = s.detail ∧ t.pwr = s.pwr ∧
      t.busOpen = s.busOpen ∧ (s.fsm = .idle → t.rst = s.rst) := by
    rw [ht]
    exact State.perform_goesOn hp
  obtain ⟨hcfg, hfb, hinfo, hk, hq, hfsm⟩ : t.cfg = s.cfg ∧ t.fb = s.fb ∧ t.errinfo = s.errinfo ∧ t.k = s.k ∧
      t.p = s.p ∧ t.fsm = s.fsm := by
    obtain ⟨_, _, _, _, _, _, _, _, _, _, _, hf⟩ := s.perform_frame p
    rw [ht, hf]
    simp
  exact hi.goesOn ha hs hcfg hfb herr hdet hinfo hidx (hk ▸ hi.counters.pair) (hq ▸ hi.counters.pixel) hn hfsm hpwr
    hrst (fun h => by simp [hi.sessionLive_of_open hb] at h) hbus hpos

section
variable (hi : s.Inv) (ha : s.active = true) (hs : decodeOpc s.op ≠ .sleep) (hb : s.busOpen = true)
include hi ha hs hb

theorem State.Inv.line {l : Line} {b : Level} {pc : Pc} (hl : l = .dc ∨ l = .rst ∧ s.fsm = .poweredUp)
    (hpos : positionOk ((s.setLine l b).goto pc)) : ((s.setLine l b).goto pc).Inv :=
  hi.performs ha hs hb (p := .setLine l b) hl rfl (by simpa using hi.counters.entry)
    (by simpa using hi.counters.samples) hpos

theorem State.Inv.delay {ms : Nat} {pc : Pc} (hpos : positionOk (s.goto pc)) : ((s.delay ms).goto pc).Inv :=
  hi.performs ha hs hb (p := .delay ms) trivial rfl hi.counters.entry hi.counters.samples hpos

theorem State.Inv.send {bytes : List Byte} {next : Pc} (hok : positionOk (s.goto next))
    (hfail : positionOk (s.goto (.abort .busIOFailure writeFailed))) : (s.sendStep bytes next).Inv := by
  rw [State.sendStep_eq]
  refine hi.performs ha hs hb (p := .busWrite bytes) trivial rfl hi.counters.entry hi.counters.samples ?_
  cases (s.env.drawWrite bytes).1
  · exact hfail
  · exact hok

/-- A sample step with `m` busy samples counted before it (R148). -/
theorem State.Inv.sample {m : Nat} {wait exit : Pc} (hm : ∀ limit, s.cfg.busyTimeoutPolls = some limit → m < limit)
    (hexit : ∀ k, positionOk ({ s with n := k }.goto exit))
    (hwait : ∀ k, State.samplesLeft { s with n := k } → positionOk ({ s with n := k }.goto wait))
    (hlate : ∀ k, positionOk ({ s with n := k }.goto (.abort .busIOFailure busyTimeout))) :
    (State.pollStep { s with n := m } wait exit).Inv := by
  have hq := State.pollStep_position (s := { s with n := m }) (wait := wait) (exit := exit) hm
  obtain ⟨k, q, he, -⟩ := State.pollStep_cases { s with n := m } wait exit
  rw [he] at hq ⊢
  refine hi.performs ha hs hb (p := .sampleBusy k) trivial rfl hi.counters.entry hq.1 ?_
  obtain rfl | ⟨rfl, hleft⟩ | rfl := hq.2
  · exact hexit k
  · exact hwait k hleft
  · exact hlate k

end

/-- The gate: with the bus closed the operation ends (R183). -/
theorem State.Inv.gated (hi : s.Inv) (ha : s.active = true) (hs : decodeOpc s.op ≠ .sleep) {go : State → State}
    (hgo : s.busOpen = true → (go s).Inv) : (s.gated go).Inv := by
  cases hb : s.busOpen with
  | true => rw [State.gated_open hb]; exact hgo hb
  | false => rw [State.gated_closed hb]; exact hi.raise ha (State.Inv.notTearingDown rfl hs) _ _ (absurd rfl)

/-- A poll starts with its count at 0, below any timeout (R7, R148). -/
theorem State.Inv.noSamples (hi : s.Inv) : ∀ limit, s.cfg.busyTimeoutPolls = some limit → 0 < limit :=
  fun _ => configOk_timeout hi.config

end
end Sys2Proof.Machine
end

section
/-! PROOFS. Every step of an operation but INIT and SLEEP keeps the invariant (43_raw_ops.md, 44_frame_ops.md, R222). -/

namespace Sys2Proof.Machine

section
variable {s : State}

/-! ## CMD, DATA and WAIT_IDLE -/

/-- CMD and DATA differ in the level of DC only (R180, R181). -/
def execRaw (level : Level) (s : State) : Result :=
  match s.pc with
  | .rule 0 => .next ({ s with opnd := s.argVal }.gated fun t => (t.setLine .dc level).goto (.rule 1))
  | .rule 1 => .next (s.sendStep [s.opnd] (.rule 2))
  | .rule 2 => .next s.complete
  | .abort e d => .next (s.raise e d)
  | .rule _ | .handshake _ => .fault .noSuchStep

theorem execCmd_eq_execRaw (s : State) : execCmd s = execRaw false s := rfl

theorem execData_eq_execRaw (s : State) : execData s = execRaw true s := rfl

/-- `s` holds a CMD or a DATA, whose byte goes out at `level`. -/
def IsRaw (s : State) (level : Level) : Prop :=
  decodeOpc s.op = .cmd ∧ level = false ∨ decodeOpc s.op = .data ∧ level = true

theorem positionOk_raw {level : Level} (h : IsRaw s level) : positionOk s ↔ rawOk s level := by
  obtain ⟨hop, rfl⟩ | ⟨hop, rfl⟩ := h <;> simp [positionOk, hop]

theorem execRaw_inv {level : Level} (hi : s.Inv) (ha : s.active = true) (h : IsRaw s level) :
    Ensures State.Inv (execRaw level s) := by
  have hs : decodeOpc s.op ≠ .sleep := by obtain ⟨hop, -⟩ | ⟨hop, -⟩ := h <;> simp [hop]
  have hpos := (positionOk_raw h).mp (hi.position ha)
  have good : ∀ {t : State}, t.op = s.op → rawOk t level → positionOk t := fun ht =>
    (positionOk_raw (by simpa [IsRaw, ht] using h)).mpr
  unfold rawOk at hpos
  unfold execRaw
  split
  case h_1 hpc =>
    refine (hi.reads hpc s.argVal hi.counters.pixel).gated ha hs fun hb => ?_
    exact (hi.reads hpc s.argVal hi.counters.pixel).line ha hs hb (.inl rfl) (good rfl (by simpa [rawOk] using hb))
  case h_2 hpc =>
    rw [hpc] at hpos
    obtain ⟨-, hb, hdc⟩ := hpos
    exact hi.send ha hs hb (good rfl ⟨le_rfl, hb, hdc⟩) (good rfl ⟨rfl, rfl, hb⟩)
  case h_3 => exact hi.complete (State.Inv.notTearingDown rfl hs)
  case h_4 e d hpc =>
    rw [hpc] at hpos
    exact hi.raise ha (State.Inv.notTearingDown rfl hs) e d fun h => absurd hpos.1 h
  all_goals trivial

@[simp] theorem State.samplesLeft_goto (s : State) (pc : Pc) : (s.goto pc).samplesLeft ↔ s.samplesLeft := .rfl

theorem execWaitIdle_inv (hi : s.Inv) (ha : s.active = true) (hop : decodeOpc s.op = .waitIdle) :
    Ensures State.Inv (execWaitIdle s) := by
  have hs : decodeOpc s.op ≠ .sleep := by simp [hop]
  have hpos : waitOk s := by simpa [positionOk, hop] using hi.position ha
  unfold waitOk at hpos
  unfold execWaitIdle
  split
  case h_1 =>
    refine hi.gated ha hs fun hb => hi.sample ha hs hb hi.noSamples (fun _ => ?_) (fun _ hl => ?_) fun _ => ?_
    · simp [positionOk, hop, waitOk, hb]
    · simpa [positionOk, hop, waitOk, hb] using hl
    · simp [positionOk, hop, waitOk, hb]
  case h_2 hpc =>
    rw [hpc] at hpos
    obtain ⟨-, hb, hl⟩ := hpos
    exact hi.delay ha hs hb (by simpa [positionOk, hop, waitOk, hb] using hl)
  case h_3 hpc =>
    rw [hpc] at hpos
    obtain ⟨-, hb, hl⟩ := hpos
    refine hi.sample ha hs hb (hl (.inr rfl)) (fun _ => ?_) (fun _ hl => ?_) fun _ => ?_
    · simp [positionOk, hop, waitOk, hb]
    · simpa [positionOk, hop, waitOk, hb] using hl
    · simp [positionOk, hop, waitOk, hb]
  case h_4 => exact hi.complete (State.Inv.notTearingDown rfl hs)
  case h_5 e d hpc =>
    rw [hpc] at hpos
    exact hi.raise ha (State.Inv.notTearingDown rfl hs) e d fun h => absurd hpos.1 h
  all_goals trivial

/-! ## RENDER, REFRESH and CLEAR -/

/-- A sample of Refresh() keeps the busy count within the timeout (R70, R197). -/
theorem handshakeStep_samples {t : State} {n : Nat} (hi : s.Inv) (hk : handshakeOk s n)
    (h : handshakeStep s n = .next t) : ∀ limit, s.cfg.busyTimeoutPolls = some limit → t.n ≤ limit := by
  obtain ⟨-, -, -, -, hl⟩ := hk
  unfold handshakeStep at h
  split at h
  case h_3 | h_10 | h_17 =>
    obtain rfl := Host.Outcome.next.inj h
    exact (State.pollStep_position (s := { s with n := 0 }) hi.noSamples).1
  case h_5 | h_12 | h_19 =>
    obtain rfl := Host.Outcome.next.inj h
    exact (State.pollStep_position (hl (by omega))).1
  case h_21 => cases h
  all_goals
    obtain rfl := Host.Outcome.next.inj h
    simpa using hi.counters.samples

/-- `s` holds an operation that ends with Refresh(). -/
def Refreshes (s : State) : Prop :=
  decodeOpc s.op = .render ∨ decodeOpc s.op = .refresh ∨ decodeOpc s.op = .clear

theorem positionOk_handshake {n : Nat} (h : Refreshes s) (hpc : s.pc = .handshake n) :
    positionOk s ↔ handshakeOk s n := by
  obtain hop | hop | hop := h <;> simp [positionOk, hop, frameOk, refreshOk, hpc]

theorem positionOk_frameAbort {e : Err} {d : BitVec 2} (h : Refreshes s) (hpc : s.pc = .abort e d) :
    positionOk s ↔ abortOk e d ∧ s.busOpen = true := by
  obtain hop | hop | hop := h <;> simp [positionOk, hop, frameOk, refreshOk, hpc]

theorem Refreshes.ne_sleep (h : Refreshes s) : decodeOpc s.op ≠ .sleep := by
  obtain hop | hop | hop := h <;> simp [hop]

theorem handshakeStep_inv (hi : s.Inv) (ha : s.active = true) (h : Refreshes s) {n : Nat} (hpc : s.pc = .handshake n) :
    Ensures State.Inv (handshakeStep s n) := by
  have hs := h.ne_sleep
  have hk := (positionOk_handshake h hpc).mp (hi.position ha)
  have hlive := hi.sessionLive_of_open hk.2.1
  cases he : handshakeStep s n with
  | fault | refused => trivial
  | next t =>
    have hn := handshakeStep_samples hi hk he
    have goesOn (hpos : positionOk t) : t.Inv := by
      obtain ⟨dc, pc, m, timer, log, env, active, rfl⟩ := handshakeStep_frame he
      exact hi.goesOn ha hs rfl rfl rfl rfl rfl hi.counters.entry hi.counters.pair hi.counters.pixel hn rfl rfl
        (fun _ => rfl) (fun h => by simp [hlive] at h) rfl hpos
    have ht : Refreshes t := by
      obtain ⟨_, _, _, _, _, _, _, rfl⟩ := handshakeStep_frame he
      exact h
    obtain rfl | ⟨m, hpc, hm⟩ | ⟨d, hpc, hd, hb⟩ := handshakeStep_position hk hi.noSamples he
    · exact hi.complete (State.Inv.notTearingDown rfl hs)
    · exact goesOn ((positionOk_handshake ht hpc).mpr hm)
    · exact goesOn ((positionOk_frameAbort ht hpc).mpr ⟨⟨rfl, hd⟩, hb⟩)

theorem frameAbort_inv (hi : s.Inv) (ha : s.active = true) (h : Refreshes s) {e : Err} {d : BitVec 2}
    (hpc : s.pc = .abort e d) : (s.raise e d).Inv := by
  obtain ⟨⟨he, -⟩, -⟩ := (positionOk_frameAbort h hpc).mp (hi.position ha)
  exact hi.raise ha (State.Inv.notTearingDown rfl h.ne_sleep) e d fun hne => absurd he hne

theorem execRefresh_inv (hi : s.Inv) (ha : s.active = true) (hop : decodeOpc s.op = .refresh) :
    Ensures State.Inv (execRefresh s) := by
  have h : Refreshes s := .inr (.inl hop)
  unfold execRefresh
  split
  case h_1 =>
    exact hi.gated ha h.ne_sleep fun hb =>
      hi.line ha h.ne_sleep hb (.inl rfl) (by simp [positionOk, hop, refreshOk, handshakeOk, hb])
  case h_2 hpc => exact handshakeStep_inv hi ha h hpc
  case h_3 hpc => exact frameAbort_inv hi ha h hpc
  case h_4 => trivial

theorem execClear_inv (hi : s.Inv) (ha : s.active = true) (hop : decodeOpc s.op = .clear) :
    Ensures State.Inv (execClear s) := by
  have h : Refreshes s := .inr (.inr hop)
  have hs := h.ne_sleep
  have hpos : frameOk s (valid s.opnd = true) := by simpa [positionOk, hop] using hi.position ha
  unfold frameOk at hpos
  unfold execClear
  split
  case h_1 hpc =>
    have hi' := hi.reads hpc s.argVal hi.counters.pixel
    split
    · rename_i hv
      exact hi'.gated ha hs fun hb =>
        hi'.line ha hs hb (.inl rfl) (by simpa [positionOk, hop, frameOk, hv] using hb)
    · exact hi'.raise ha (State.Inv.notTearingDown hop nofun) _ _ fun _ => rfl
  case h_2 hpc =>
    rw [hpc] at hpos
    obtain ⟨-, hb, -, -, hv⟩ := hpos
    refine hi.send ha hs hb ?_ ?_ <;> simp [positionOk, hop, frameOk, abortOk, hb, hv]
  case h_3 hpc =>
    rw [hpc] at hpos
    obtain ⟨-, hb, -, -, hv⟩ := hpos
    exact hi.line ha hs hb (.inl rfl) (by simp [positionOk, hop, frameOk, hb, hv])
  case h_4 hpc =>
    rw [hpc] at hpos
    obtain ⟨-, hb, -⟩ := hpos
    refine hi.send ha hs hb ?_ ?_ <;> simp [positionOk, hop, frameOk, handshakeOk, abortOk, hb]
  case h_5 hpc => exact handshakeStep_inv hi ha h hpc
  case h_6 hpc => exact frameAbort_inv hi ha h hpc
  case h_7 => trivial

theorem execRender_inv (hi : s.Inv) (ha : s.active = true) (hop : decodeOpc s.op = .render) :
    Ensures State.Inv (execRender s) := by
  have h : Refreshes s := .inl hop
  have hs := h.ne_sleep
  have up : ¬ s.tearingDown := State.Inv.notTearingDown hop nofun
  have hpos : frameOk s (∀ a, a < npix → valid (Memory.read s.fb a) = true) := by
    simpa [positionOk, hop] using hi.position ha
  unfold frameOk at hpos
  unfold execRender
  split
  case h_1 hpc =>
    split
    · cases hv : firstInvalidCell s.fb with
      | none =>
        have hvalid := firstInvalidCell_none.mp hv
        have hi' := hi.reads hpc s.opnd (q := npix - 1) (by decide)
        rw [State.validated_ok hvalid]
        exact hi'.gated ha hs fun hb =>
          hi'.line ha hs hb (.inl rfl) (by simpa [positionOk, hop, frameOk] using ⟨hb, hvalid⟩)
      | some p =>
        obtain ⟨hp, -, -⟩ := firstInvalidCell_some.mp hv
        rw [State.validated_bad hv]
        refine hi.ends up rfl rfl (fun _ => rfl) (absurd rfl) ?_ rfl rfl hp rfl rfl rfl rfl rfl rfl rfl
        exact BitVec.toNat_ofNat p 19 ▸ (Nat.mod_le p _).trans_lt hp
    · exact hi.raise ha up _ _ fun _ => rfl
  case h_2 hpc =>
    rw [hpc] at hpos
    obtain ⟨-, hb, -, -, hv⟩ := hpos
    refine hi.send ha hs hb ?_ ?_
    · simpa [positionOk, hop, frameOk, hb] using hv
    · simp [positionOk, hop, frameOk, abortOk, hb]
  case h_3 hpc =>
    rw [hpc] at hpos
    obtain ⟨-, hb, -, -, hv⟩ := hpos
    exact hi.line ha hs hb (.inl rfl) (by simpa [positionOk, hop, frameOk, hb] using hv)
  case h_4 hpc =>
    have hi' := hi.sendsBulk
    rw [hpc] at hpos
    obtain ⟨-, hb, -⟩ := hpos
    refine hi'.send ha hs hb ?_ ?_ <;> simp [positionOk, hop, frameOk, handshakeOk, abortOk, hb]
  case h_5 hpc => exact handshakeStep_inv hi ha h hpc
  case h_6 hpc => exact frameAbort_inv hi ha h hpc
  case h_7 => trivial

end
end Sys2Proof.Machine
end

section
/-! PROOFS. Every step of INIT and SLEEP keeps the invariant (42_initialize.md, 45_sleep.md), and with it every step of the
machine; the FSM changes by the transitions of 10_state.md R32 only. -/

namespace Sys2Proof.Machine

section
variable {s t : State}

/-- A step of INIT or SLEEP that goes on: the session and the position are what is left to show. -/
theorem State.Inv.continues (hi : s.Inv) (ha : s.active = true)
    (ht : t = { s with
      fsm := t.fsm, pwr := t.pwr, rst := t.rst, dc := t.dc, busOpen := t.busOpen, pc := t.pc, errPending := t.errPending
      timer := t.timer, log := t.log, env := t.env })
    (hses : SessionOk t) (hpos : positionOk t) : t.Inv := by
  obtain ⟨hcfg, hmem, ⟨hclear, -, -, hbound⟩, ⟨hidx, hk, hp, hn⟩, -, -⟩ := hi
  obtain ⟨-, hdetail, hinfo⟩ := hclear ha
  rw [ht] at hses hpos ⊢
  exact ⟨hcfg, hmem, ⟨hclear, fun _ => hdetail, fun _ => hinfo, hbound⟩, ⟨hidx, hk, hp, hn⟩, hses, fun _ => hpos⟩

/-! ## INIT -/

/-- In POWERED_UP with PWR up the session is as R31 has it, whatever the other lines and the bus are. -/
theorem sessionOk_poweredUp (hfsm : t.fsm = .poweredUp) (hpwr : t.pwr = true) : SessionOk t :=
  ⟨fun h => by simp [State.sessionLive, hfsm] at h, fun _ => .inl hpwr, fun h => by simp [hfsm] at h⟩

theorem positionOk_init (hop : decodeOpc s.op = .init) : positionOk s ↔ initOk s := by
  simp [positionOk, hop]

theorem State.Inv.powered_of_init (hi : s.Inv) (hop : decodeOpc s.op = .init) (hf : s.fsm = .poweredUp) :
    s.pwr = true :=
  (hi.session.powered (by simp [State.sessionLive, hf])).resolve_right (State.Inv.notTearingDown hop nofun)

/-- INIT at a write of its table: the session is up, the bus open and RST 1 (R164, R166). -/
structure Configuring (s : State) : Prop where
  active : s.active = true
  op : decodeOpc s.op = .init
  fsm : s.fsm = .poweredUp
  bus : s.busOpen = true
  rst : s.rst = true

theorem Configuring.ne_sleep (h : Configuring s) : decodeOpc s.op ≠ .sleep := by simp [h.op]

theorem Configuring.failed (h : Configuring s) (hi : s.Inv) :
    positionOk (s.goto (.abort .busIOFailure writeFailed)) := by
  simp [positionOk, h.op, initOk, initAbortOk, h.fsm, hi.powered_of_init h.op h.fsm, h.rst, h.bus]

/-- A successful write goes on at the next entry (R166). -/
theorem Configuring.nextEntry (h : Configuring s) (hi : s.Inv) (bytes : List Byte) :
    (s.perform (.busWrite bytes)).initNextEntry.Inv := by
  obtain ⟨hlt, he⟩ | ⟨-, he⟩ := (s.perform (.busWrite bytes)).initNextEntry_cases <;> rw [he]
  · refine hi.performs h.active h.ne_sleep h.bus (p := .busWrite bytes) trivial rfl hlt hi.counters.samples ?_
    simp [positionOk, State.perform, State.busWrite, h.op, initOk, h.fsm, h.bus, h.rst]
  · refine hi.performs h.active h.ne_sleep h.bus (p := .busWrite bytes) trivial rfl hi.counters.entry
      hi.counters.samples ?_
    simp [positionOk, State.perform, State.busWrite, h.op, initOk, h.fsm, h.bus, h.rst]

/-- A successful write goes on at a data byte of the entry, at index `j` (R166). -/
theorem Configuring.dataByte (h : Configuring s) (hi : s.Inv) (bytes : List Byte) {e : InitEntry} {j : Nat}
    (he : s.cfg.initTable[s.i]? = some e) (hj : j < e.data.length) :
    State.Inv { s.perform (.busWrite bytes) with j := j, pc := .rule 14 } := by
  refine hi.performs h.active h.ne_sleep h.bus (p := .busWrite bytes) trivial rfl hi.counters.entry
    hi.counters.samples ?_
  simp [positionOk, State.perform, State.busWrite, h.op, initOk, h.fsm, h.bus, h.rst, he, hj]

theorem Configuring.abort (h : Configuring s) (hi : s.Inv) (bytes : List Byte) :
    State.Inv { s.perform (.busWrite bytes) with pc := .abort .busIOFailure writeFailed } :=
  hi.performs h.active h.ne_sleep h.bus (p := .busWrite bytes) trivial rfl hi.counters.entry hi.counters.samples
    (h.failed hi)

theorem Configuring.initCommand (h : Configuring s) (hi : s.Inv) {e : InitEntry}
    (he : s.cfg.initTable[s.i]? = some e) : (s.initCommand e).Inv := by
  obtain ⟨t, ht, ⟨-, -, hx⟩ | ⟨-, hne, hx⟩ | ⟨-, hx⟩⟩ := s.initCommand_cases e <;> rw [hx, ht]
  · exact h.nextEntry hi [e.cmd]
  · exact h.dataByte hi [e.cmd] he (List.length_pos_iff.mpr hne)
  · exact h.abort hi [e.cmd]

theorem Configuring.initData (h : Configuring s) (hi : s.Inv) {e : InitEntry} (b : Byte)
    (he : s.cfg.initTable[s.i]? = some e) : (s.initData e b).Inv := by
  obtain ⟨t, ht, ⟨-, hlt, hx⟩ | ⟨-, -, hx⟩ | ⟨-, hx⟩⟩ := s.initData_cases e b <;> rw [hx, ht]
  · exact h.dataByte hi [b] he hlt
  · exact h.nextEntry hi [b]
  · exact h.abort hi [b]

/-- A raise of INIT is of BusIOFailure (R167). -/
theorem State.Inv.initAbort (hi : s.Inv) (ha : s.active = true) (hop : decodeOpc s.op = .init) {e : Err} {d : BitVec 2}
    (hpc : s.pc = .abort e d) : (s.raise e d).Inv := by
  have hpos := (positionOk_init hop).mp (hi.position ha)
  rw [initOk, hpc] at hpos
  exact hi.raise ha (State.Inv.notTearingDown hop nofun) e d fun hne => absurd hpos.1 hne

/-- INIT's first step: out of a session the lines and the bus are released (R31, R161). -/
theorem State.Inv.initPowersUp (hi : s.Inv) (ha : s.active = true) (hop : decodeOpc s.op = .init)
    (hl : s.sessionLive = false) : ((State.setLine { s with fsm := .poweredUp } .pwr true).goto (.rule 1)).Inv := by
  obtain ⟨-, hrst, hdc, hb⟩ := hi.session.released hl
  exact hi.continues ha rfl (sessionOk_poweredUp rfl rfl) (by simp [positionOk, hop, initOk, hrst, hdc, hb])

/-- INIT's bus open (R162). -/
theorem State.Inv.initOpen (hi : s.Inv) (ha : s.active = true) (hop : decodeOpc s.op = .init) (hf : s.fsm = .poweredUp)
    (hrst : s.rst = false) (hdc : s.dc = false) (hb : s.busOpen = false) : s.initOpen.Inv := by
  have hpwr := hi.powered_of_init hop hf
  rw [State.initOpen_eq]
  refine hi.continues ha rfl (sessionOk_poweredUp hf hpwr) ?_
  cases s.env.drawOpen.1 <;> simp [positionOk, hop, initOk, initAbortOk, hf, hpwr, hrst, hdc, hb]

/-- INIT's completion: the bus is open and RST 1 (R31, R168). -/
theorem State.Inv.initCompletes (hi : s.Inv) (h : Configuring s) : (State.complete { s with fsm := .idle }).Inv := by
  have hpwr := hi.powered_of_init h.op h.fsm
  obtain ⟨hcfg, hmem, ⟨-, hdetail, hinfo, hbound⟩, ⟨hidx, hk, hp, hn⟩, -, -⟩ := hi
  exact ⟨hcfg, hmem, ⟨nofun, hdetail, hinfo, hbound⟩, ⟨hidx, hk, hp, hn⟩,
    ⟨nofun, fun _ => .inl hpwr, fun _ => .inl ⟨h.bus, h.rst⟩⟩, nofun⟩

theorem execInit_inv (hi : s.Inv) (ha : s.active = true) (hop : decodeOpc s.op = .init) :
    Ensures State.Inv (execInit s) := by
  have hs : decodeOpc s.op ≠ .sleep := by simp [hop]
  have hpos := (positionOk_init hop).mp (hi.position ha)
  unfold initOk at hpos
  unfold execInit
  split
  case h_1 =>
    split
    · exact hi.raise ha (State.Inv.notTearingDown hop nofun) _ _ fun _ => rfl
    · exact hi.initPowersUp ha hop (by simpa using ‹¬ s.sessionLive = true›)
  case h_2 hpc =>
    rw [hpc] at hpos
    obtain ⟨hf, hrst, hdc, hb⟩ := hpos
    exact hi.initOpen ha hop hf hrst hdc hb
  case h_3 hpc | h_5 hpc | h_7 hpc =>
    rw [hpc] at hpos
    obtain ⟨-, hf, hb, -, hdc, -⟩ := hpos
    exact hi.line ha hs hb (.inr ⟨rfl, hf⟩) (by simp [positionOk, hop, initOk, hf, hb, hdc])
  case h_4 hpc | h_6 hpc | h_8 hpc =>
    rw [hpc] at hpos
    obtain ⟨-, hf, hb, hrst, hdc, -⟩ := hpos
    exact hi.delay ha hs hb (by simp [positionOk, hop, initOk, hf, hb, hdc, hrst])
  case h_9 hpc =>
    rw [hpc] at hpos
    obtain ⟨-, hf, hb, hrst, hdc, -⟩ := hpos
    have hpwr := hi.powered_of_init hop hf
    refine hi.sample ha hs hb hi.noSamples (fun _ => ?_) (fun _ hl => ?_) fun _ => ?_
    · simp [positionOk, hop, initOk, hf, hb, hdc, hrst]
    · simpa [positionOk, hop, initOk, hf, hb, hdc, hrst] using hl
    · simp [positionOk, hop, initOk, initAbortOk, hf, hpwr, hb, hdc, hrst]
  case h_10 hpc =>
    rw [hpc] at hpos
    obtain ⟨-, hf, hb, hrst, hdc, hl, -⟩ := hpos
    exact hi.delay ha hs hb (by simp [positionOk, hop, initOk, hf, hb, hdc, hrst, hl])
  case h_11 hpc =>
    rw [hpc] at hpos
    obtain ⟨-, hf, hb, hrst, hdc, hl, -⟩ := hpos
    have hpwr := hi.powered_of_init hop hf
    refine hi.sample ha hs hb (hl (.inr rfl)) (fun _ => ?_) (fun _ hl => ?_) fun _ => ?_
    · simp [positionOk, hop, initOk, hf, hb, hdc, hrst]
    · simpa [positionOk, hop, initOk, hf, hb, hdc, hrst] using hl
    · simp [positionOk, hop, initOk, initAbortOk, hf, hpwr, hb, hdc, hrst]
  case h_12 hpc =>
    rw [hpc] at hpos
    obtain ⟨-, hf, hb, hrst, -⟩ := hpos
    refine hi.performs ha hs hb (p := .delay tSettle) trivial rfl (Nat.succ_pos _) hi.counters.samples ?_
    simp [positionOk, hop, initOk, hf, hb, hrst]
  case h_13 hpc =>
    rw [hpc] at hpos
    obtain ⟨-, hf, hb, hrst, -⟩ := hpos
    exact hi.line ha hs hb (.inl rfl) (by simp [positionOk, hop, initOk, hf, hb, hrst])
  case h_14 hpc =>
    rw [hpc] at hpos
    obtain ⟨-, hf, hb, hrst, -⟩ := hpos
    split
    · exact Configuring.initCommand ⟨ha, hop, hf, hb, hrst (by decide)⟩ hi ‹_›
    · trivial
  case h_15 hpc =>
    rw [hpc] at hpos
    obtain ⟨-, hf, hb, hrst, -, -, -, -, he⟩ := hpos
    exact hi.line ha hs hb (.inl rfl) (by simpa [positionOk, hop, initOk, hf, hb, hrst] using he)
  case h_16 hpc =>
    rw [hpc] at hpos
    obtain ⟨-, hf, hb, hrst, -⟩ := hpos
    split
    · split
      · exact Configuring.initData ⟨ha, hop, hf, hb, hrst (by decide)⟩ hi _ ‹_›
      · trivial
    · trivial
  case h_17 hpc =>
    rw [hpc] at hpos
    obtain ⟨-, hf, hb, hrst, -⟩ := hpos
    exact hi.initCompletes ⟨ha, hop, hf, hb, hrst (by decide)⟩
  case h_18 hpc => exact hi.initAbort ha hop hpc
  all_goals trivial

/-! ## SLEEP -/

/-- SLEEP goes on in its session: PWR, RST and the bus stay up until the teardown, and from then on need not (R212). -/
theorem State.Inv.sleepGoesOn (hi : s.Inv) (ha : s.active = true) (hlive : s.sessionLive = true)
    (ht : t = { s with
      pwr := t.pwr, rst := t.rst, dc := t.dc, busOpen := t.busOpen, pc := t.pc, errPending := t.errPending
      timer := t.timer, log := t.log, env := t.env })
    (hup : t.tearingDown ∨ ¬ s.tearingDown ∧ t.pwr = s.pwr ∧ t.rst = s.rst ∧ t.busOpen = s.busOpen)
    (hpos : positionOk t) : t.Inv := by
  have hf : t.fsm = s.fsm := by rw [ht]
  refine hi.continues ha (by rw [ht]) ⟨fun h => ?_, fun _ => ?_, fun h => ?_⟩ hpos
  · rw [State.sessionLive_congr hf, hlive] at h
    cases h
  · obtain hdown | ⟨hnot, hpwr, -, -⟩ := hup
    · exact .inr hdown
    · exact .inl (hpwr.trans ((hi.session.powered hlive).resolve_right hnot))
  · obtain hdown | ⟨hnot, -, hrst, hbus⟩ := hup
    · exact .inr hdown
    · obtain ⟨hb, hr⟩ := (hi.session.opened (hf ▸ h)).resolve_right hnot
      exact .inl ⟨hbus.trans hb, hrst.trans hr⟩

/-- Before its bus close SLEEP is not tearing down (R212). -/
theorem State.not_tearingDown_of_lt {n : Nat} (hpc : s.pc = .rule n) (hn : n < 6) : ¬ s.tearingDown := by
  rintro ⟨-, -, m, hm, hle⟩
  obtain rfl : n = m := Pc.rule.inj (hpc.symm.trans hm)
  omega

/-- SLEEP's last step: the lines are 0 and the bus is closed, as they must be out of a session (R31, R210, R211). -/
theorem State.Inv.sleepEnd (hi : s.Inv) (ha : s.active = true) (hpwr : s.pwr = false) (hrst : s.rst = false)
    (hdc : s.dc = false) (hb : s.busOpen = false) : s.sleepEnd.Inv := by
  obtain ⟨hcfg, hmem, ⟨hclear, -, -, hbound⟩, ⟨hidx, hk, hp, hn⟩, -, -⟩ := hi
  obtain ⟨-, hdetail, hinfo⟩ := hclear ha
  have released {e : Err} {d : BitVec 2} (hd : e ≠ .busIOFailure → d = 0#2) :
      (State.raise { s with fsm := .asleep } e d).Inv :=
    ⟨hcfg, hmem, ⟨nofun, hd, fun _ => hinfo, hbound⟩, ⟨hidx, hk, hp, hn⟩, ⟨fun _ => ⟨hpwr, hrst, hdc, hb⟩, nofun, nofun⟩,
      nofun⟩
  unfold State.sleepEnd
  split
  · exact released (absurd rfl)
  · exact released (fun _ => hdetail)

theorem State.Inv.tryStep (hi : s.Inv) (ha : s.active = true) (hlive : s.sessionLive = true)
    (hup : ¬ s.tearingDown) {bytes : List Byte} {next : Pc} (hok : positionOk (s.goto next))
    (hfail : positionOk (s.goto (.rule 5))) : (s.tryStep bytes next).Inv := by
  rw [State.tryStep_eq]
  refine hi.sleepGoesOn ha hlive rfl (.inr ⟨hup, rfl, rfl, rfl⟩) ?_
  cases (s.env.drawWrite bytes).1
  · exact hfail
  · exact hok

theorem execSleep_inv (hi : s.Inv) (ha : s.active = true) (hop : decodeOpc s.op = .sleep) :
    Ensures State.Inv (execSleep s) := by
  have hpos : sleepOk s := by simpa [positionOk, hop] using hi.position ha
  unfold sleepOk at hpos
  unfold execSleep
  split
  case h_1 hpc =>
    have hup := State.not_tearingDown_of_lt hpc (by decide)
    split
    · rename_i hlive
      split
      · rename_i hb
        exact hi.sleepGoesOn ha hlive rfl (.inr ⟨hup, rfl, rfl, rfl⟩)
          (by simpa [positionOk, hop, sleepOk, State.sessionLive, hb] using hlive)
      · rename_i hb
        exact hi.sleepGoesOn ha hlive rfl (.inl ⟨ha, hop, 7, rfl, by decide⟩)
          (by simpa [positionOk, hop, sleepOk, State.sessionLive, hb] using hlive)
    · exact hi.raise ha hup _ _ fun _ => rfl
  case h_2 hpc | h_4 hpc =>
    have hup := State.not_tearingDown_of_lt hpc (by decide)
    rw [hpc] at hpos
    obtain ⟨-, hlive, hb, -⟩ := hpos
    refine hi.tryStep ha hlive hup ?_ ?_ <;> simpa [positionOk, hop, sleepOk, State.sessionLive, hb] using hlive
  case h_3 hpc | h_5 hpc =>
    have hup := State.not_tearingDown_of_lt hpc (by decide)
    rw [hpc] at hpos
    obtain ⟨-, hlive, hb, -⟩ := hpos
    exact hi.sleepGoesOn ha hlive rfl (.inr ⟨hup, rfl, rfl, rfl⟩) (by simpa [positionOk, hop, sleepOk, State.sessionLive, hb] using hlive)
  case h_6 hpc =>
    rw [hpc] at hpos
    obtain ⟨-, hlive, -⟩ := hpos
    exact hi.sleepGoesOn ha hlive rfl (.inl ⟨ha, hop, 6, rfl, by decide⟩)
      (by simpa [positionOk, hop, sleepOk, State.sessionLive] using hlive)
  case h_7 hpc | h_8 hpc | h_9 hpc =>
    rw [hpc] at hpos
    obtain ⟨-, hlive, -, -, -, hb, hrst, hdc, -⟩ := hpos
    exact hi.sleepGoesOn ha hlive rfl (.inl ⟨ha, hop, _, rfl, by decide⟩)
      (by simpa [positionOk, hop, sleepOk, State.sessionLive, hb, hrst, hdc] using hlive)
  case h_10 hpc =>
    rw [hpc] at hpos
    obtain ⟨-, -, -, -, -, hb, hrst, hdc, hpwr⟩ := hpos
    exact hi.sleepEnd ha (hpwr (by decide)) (hrst (by decide)) (hdc (by decide)) (hb (by decide))
  all_goals trivial

/-! ## The machine -/

theorem execIllegal_inv (hi : s.Inv) (ha : s.active = true) {opc : BitVec 4} (hop : decodeOpc s.op = .illegal opc) :
    Ensures State.Inv (execIllegal opc s) := by
  unfold execIllegal
  split
  case h_1 => exact hi.raise ha (State.Inv.notTearingDown hop nofun) _ _ fun _ => rfl
  all_goals trivial

/-- A step of the active operation keeps the invariant. -/
theorem exec_inv (hi : s.Inv) (ha : s.active = true) : Ensures State.Inv (exec (decodeOpc s.op) s) := by
  cases hop : decodeOpc s.op with
  | illegal opc => exact execIllegal_inv hi ha hop
  | init => exact execInit_inv hi ha hop
  | cmd => rw [exec, execCmd_eq_execRaw]; exact execRaw_inv hi ha (.inl ⟨hop, rfl⟩)
  | data => rw [exec, execData_eq_execRaw]; exact execRaw_inv hi ha (.inr ⟨hop, rfl⟩)
  | waitIdle => exact execWaitIdle_inv hi ha hop
  | render => exact execRender_inv hi ha hop
  | refresh => exact execRefresh_inv hi ha hop
  | clear => exact execClear_inv hi ha hop
  | sleep => exact execSleep_inv hi ha hop

end

/-- Settles O55: State.reset is itself a state after a reset. -/
theorem resetStateIsGood : Obligations.ResetStateIsGood :=
  State.inv_of_reset rfl (by decide) rfl

/-- Settles O56: by the agent that moves, and for the sequencer by the operation and the position of its rule. -/
theorem stepsKeepGoodStatesGood : Obligations.StepsKeepGoodStatesGood := by
  intro s t hi h
  obtain ⟨contents, rest, -, rfl⟩ | ⟨-, ha, hx⟩ | ⟨-, rfl⟩ := step_cases h
  · exact State.Inv.blockReset (hi.sameButHost rfl) contents
  · have := exec_inv hi.turnTaken (s.turnTaken_active.trans ha)
    rwa [s.turnTaken_op, hx] at this
  · exact hi.turnTaken.hostStep

/-! ## The FSM's transitions (R32) -/

/-- INIT moves the FSM at its state check and at its completion. -/
theorem execInit_fsm (s : State) :
    Ensures (fun t => t.fsm = s.fsm ∨ (s.pc = .rule 0 ∧ s.sessionLive = false ∧ t.fsm = .poweredUp) ∨
      (s.pc = .rule 16 ∧ t.fsm = .idle ∧ t.active = false)) (execInit s) := by
  unfold execInit
  split
  case h_1 hpc =>
    cases hl : s.sessionLive
    · exact .inr (.inl ⟨hpc, rfl, rfl⟩)
    · exact .inl rfl
  case h_14 => split <;> simp
  case h_16 =>
    split
    · split <;> simp
    · simp
  case h_17 hpc => exact .inr (.inr ⟨hpc, rfl, rfl⟩)
  all_goals simp

/-- SLEEP moves the FSM in its last step. -/
theorem execSleep_fsm (s : State) :
    Ensures (fun t => t.fsm = s.fsm ∨ (s.pc = .rule 9 ∧ t.fsm = .asleep ∧ t.active = false)) (execSleep s) := by
  unfold execSleep
  split
  case h_1 =>
    split
    · split <;> simp
    · simp
  case h_10 hpc =>
    refine .inr ⟨hpc, ?_⟩
    unfold State.sleepEnd
    split <;> exact ⟨rfl, rfl⟩
  all_goals simp

/-- The FSM over a step of the active operation, in a good state. -/
theorem exec_fsm {s t : State} (hi : s.Inv) (ha : s.active = true) (h : exec (decodeOpc s.op) s = .next t)
    (hne : t.fsm ≠ s.fsm) :
    ((s.fsm = .uninit ∨ s.fsm = .asleep) ∧ t.fsm = .poweredUp ∧ decodeOpc s.op = .init ∧ s.pc = .rule 0) ∨
    (s.fsm = .poweredUp ∧ t.fsm = .idle ∧ decodeOpc s.op = .init ∧ s.pc = .rule 16 ∧ t.active = false) ∨
    ((s.fsm = .idle ∨ s.fsm = .poweredUp) ∧ t.fsm = .asleep ∧ decodeOpc s.op = .sleep ∧ s.pc = .rule 9 ∧
      t.active = false) := by
  have hpos := hi.position ha
  by_cases hinit : decodeOpc s.op = .init
  · have hstep := execInit_fsm s
    rw [hinit] at h
    rw [show execInit s = .next t from h, ensures_next] at hstep
    obtain hsame | ⟨hpc, hl, hf⟩ | ⟨hpc, hf, hend⟩ := hstep
    · exact absurd hsame hne
    · refine .inl ⟨?_, hf, hinit, hpc⟩
      cases hfsm : s.fsm <;> simp [State.sessionLive, hfsm] at hl ⊢
    · rw [positionOk_init hinit, initOk, hpc] at hpos
      exact .inr (.inl ⟨hpos.2.1, hf, hinit, hpc, hend⟩)
  by_cases hsleep : decodeOpc s.op = .sleep
  · have hstep := execSleep_fsm s
    rw [hsleep] at h
    rw [show execSleep s = .next t from h, ensures_next] at hstep
    obtain hsame | ⟨hpc, hf, hend⟩ := hstep
    · exact absurd hsame hne
    · have hlive : s.sessionLive = true := by
        simp only [positionOk, hsleep, sleepOk, hpc] at hpos
        exact hpos.2.1
      refine .inr (.inr ⟨?_, hf, hsleep, hpc, hend⟩)
      cases hfsm : s.fsm <;> simp [State.sessionLive, hfsm] at hlive ⊢
  · exact absurd ((exec_opStep h).session.1 hinit hsleep).1 hne

/-- Settles O52: of the agents only the sequencer and the block reset move the FSM, and of the operations INIT and SLEEP. -/
theorem fsmChangesOnlyByItsTransitions : Obligations.FsmChangesOnlyByItsTransitions := by
  intro s t hi h hne
  obtain ⟨contents, rest, hs, rfl⟩ | ⟨-, ha, hx⟩ | ⟨-, rfl⟩ := step_cases h
  · exact .inr (.inr (.inr ⟨rfl, contents, rest, hs⟩))
  · have := exec_fsm hi.turnTaken (s.turnTaken_active.trans ha) (s.turnTaken_op ▸ hx) (s.turnTaken_fsm ▸ hne)
    simp only [s.turnTaken_op, s.turnTaken_fsm, s.turnTaken_pc] at this
    obtain ⟨hf, hf', hop, hpc⟩ | ⟨hf, hf', hop, hpc, hend⟩ | ⟨hf, hf', hop, hpc, hend⟩ := this
    · exact .inl ⟨hf, hf', ha, hop, hpc⟩
    · exact .inr (.inl ⟨hf, hf', ha, hop, hpc, hend⟩)
    · exact .inr (.inr (.inl ⟨hf, hf', ha, hop, hpc, hend⟩))
  · obtain ⟨-, hf, -⟩ := s.turnTaken.hostStep_frame
    exact absurd (hf.trans s.turnTaken_fsm) hne

end Sys2Proof.Machine
end

section
/-! PROOFS. The host cannot disturb an operation (20_memory.md R67, R74; 70_reset_and_hazards.md R256): the sequencer's
step neither reads nor changes the host's side, and while an operation is active the host's step changes nothing else. -/

namespace Sys2Proof.Machine

/-! ## What the host's side is -/

section
variable (s u : State)

@[simp] theorem State.hostSide_cfg : (s.hostSide u).cfg = s.cfg := rfl
@[simp] theorem State.hostSide_pc : (s.hostSide u).pc = s.pc := rfl
@[simp] theorem State.hostSide_i : (s.hostSide u).i = s.i := rfl
@[simp] theorem State.hostSide_j : (s.hostSide u).j = s.j := rfl
@[simp] theorem State.hostSide_n : (s.hostSide u).n = s.n := rfl
@[simp] theorem State.hostSide_fb : (s.hostSide u).fb = s.fb := rfl
@[simp] theorem State.hostSide_argVal : (s.hostSide u).argVal = s.argVal := rfl
@[simp] theorem State.hostSide_opnd : (s.hostSide u).opnd = s.opnd := rfl
@[simp] theorem State.hostSide_busOpen : (s.hostSide u).busOpen = s.busOpen := rfl
@[simp] theorem State.hostSide_errPending : (s.hostSide u).errPending = s.errPending := rfl
@[simp] theorem State.hostSide_sessionLive : (s.hostSide u).sessionLive = s.sessionLive := rfl
@[simp] theorem State.hostSide_canvasMatches : (s.hostSide u).canvasMatches = s.canvasMatches := rfl

@[simp] theorem hostSideOf_next : hostSideOf (.next s) u = .next (s.hostSide u) := rfl

@[simp] theorem hostSideOf_fault (f : Fault) : hostSideOf (.fault f) u = .fault f := rfl

/-! ## The panel's answers to the sequencer (R236): BUSY_IN has answers of its own -/

@[simp] theorem State.busOpenOp_hostSide :
    (s.hostSide u).busOpenOp = (s.busOpenOp.1, s.busOpenOp.2.hostSide u) := by
  cases h : s.env.opens <;> simp only [State.busOpenOp, Env.drawOpen, State.hostSide, h]
  case nil => cases Config.openResult s.env.nOpen <;> rfl
  case cons ok _ => cases ok <;> rfl

@[simp] theorem State.busWrite_hostSide (bytes : List Byte) :
    (s.hostSide u).busWrite bytes = ((s.busWrite bytes).1, (s.busWrite bytes).2.hostSide u) := by
  cases h : s.env.writes <;> simp only [State.busWrite, Env.drawWrite, State.hostSide, h] <;> rfl

@[simp] theorem State.sampleBusy_hostSide :
    (s.hostSide u).sampleBusy = (s.sampleBusy.1, s.sampleBusy.2.hostSide u) := by
  cases h : s.env.polls <;> simp only [State.sampleBusy, Env.drawPoll, State.hostSide, h] <;> rfl

/-! ## The steps an operation is made of -/

@[simp] theorem State.goto_hostSide (pc : Pc) : (s.hostSide u).goto pc = (s.goto pc).hostSide u := rfl

@[simp] theorem State.setLine_hostSide (l : Line) (b : Level) :
    (s.hostSide u).setLine l b = (s.setLine l b).hostSide u := by
  cases l <;> rfl

@[simp] theorem State.delay_hostSide (ms : Nat) : (s.hostSide u).delay ms = (s.delay ms).hostSide u := rfl

@[simp] theorem State.busClose_hostSide : (s.hostSide u).busClose = s.busClose.hostSide u := rfl

@[simp] theorem State.complete_hostSide : (s.hostSide u).complete = s.complete.hostSide u := rfl

@[simp] theorem State.raise_hostSide (e : Err) (d : BitVec 2) :
    (s.hostSide u).raise e d = (s.raise e d).hostSide u := rfl

@[simp] theorem State.sendStep_hostSide (bytes : List Byte) (next : Pc) :
    (s.hostSide u).sendStep bytes next = (s.sendStep bytes next).hostSide u := by
  cases h : (s.busWrite bytes).1 <;> simp [State.sendStep, h]

@[simp] theorem State.tryStep_hostSide (bytes : List Byte) (next : Pc) :
    (s.hostSide u).tryStep bytes next = (s.tryStep bytes next).hostSide u := by
  cases h : (s.busWrite bytes).1 <;> simp [State.tryStep, h]
  rfl

@[simp] theorem State.pollStep_hostSide (wait exit : Pc) :
    (s.hostSide u).pollStep wait exit = (s.pollStep wait exit).hostSide u := by
  simp only [State.pollStep, State.sampleBusy_hostSide, State.hostSide_cfg, State.hostSide_n]
  split
  · rfl
  · split
    · rfl
    · split <;> rfl

@[simp] theorem State.pollStart_hostSide (wait exit : Pc) :
    (s.hostSide u).pollStart wait exit = (s.pollStart wait exit).hostSide u :=
  State.pollStep_hostSide { s with n := 0 } u wait exit

@[simp] theorem State.pollWait_hostSide (again : Pc) :
    (s.hostSide u).pollWait again = (s.pollWait again).hostSide u := rfl

@[simp] theorem State.initOpen_hostSide : (s.hostSide u).initOpen = s.initOpen.hostSide u := by
  cases h : s.busOpenOp.1 <;> simp [State.initOpen, h]

@[simp] theorem State.initNextEntry_hostSide : (s.hostSide u).initNextEntry = s.initNextEntry.hostSide u := by
  unfold State.initNextEntry
  rw [State.hostSide_i]
  split <;> rfl

@[simp] theorem State.initCommand_hostSide (e : InitEntry) :
    (s.hostSide u).initCommand e = (s.initCommand e).hostSide u := by
  simp only [State.initCommand, State.busWrite_hostSide]
  split
  · split
    · exact State.initNextEntry_hostSide ..
    · rfl
  · rfl

@[simp] theorem State.initData_hostSide (e : InitEntry) (b : Byte) :
    (s.hostSide u).initData e b = (s.initData e b).hostSide u := by
  simp only [State.initData, State.busWrite_hostSide, State.hostSide_j]
  split
  · split
    · rfl
    · exact State.initNextEntry_hostSide ..
  · rfl

@[simp] theorem State.sleepEnd_hostSide : (s.hostSide u).sleepEnd = s.sleepEnd.hostSide u := by
  unfold State.sleepEnd
  rw [State.hostSide_errPending]
  split <;> rfl

end

section
variable {s u : State} {go : State → State}

theorem State.gated_hostSide (h : go (s.hostSide u) = (go s).hostSide u) :
    (s.hostSide u).gated go = (s.gated go).hostSide u := by
  unfold State.gated
  rw [State.hostSide_busOpen, h]
  split <;> rfl

/-- A gate whose operation goes on with a line, after reading its operands (R183). -/
@[simp] theorem State.gatedLine_hostSide (l : Line) (b : Level) (pc : Pc) :
    ((s.hostSide u).gated fun t => (t.setLine l b).goto pc) = (s.gated fun t => (t.setLine l b).goto pc).hostSide u :=
  State.gated_hostSide (by simp)

theorem State.validated_hostSide (h : ∀ t, go (t.hostSide u) = (go t).hostSide u) :
    (s.hostSide u).validated go = (s.validated go).hostSide u := by
  cases hp : firstInvalidCell s.fb with
  | none =>
    have hv := firstInvalidCell_none.mp hp
    rw [State.validated_ok hv, State.validated_ok (s := s.hostSide u) hv]
    exact h { s with p := npix - 1 }
  | some p =>
    rw [State.validated_bad hp, State.validated_bad (s := s.hostSide u) hp]
    rfl

/-! ## The operations -/

@[simp] theorem handshakeStep_hostSide (n : Nat) :
    handshakeStep (s.hostSide u) n = hostSideOf (handshakeStep s n) u := by
  unfold handshakeStep
  split <;> simp

theorem execIllegal_hostSide (opc : BitVec 4) : execIllegal opc (s.hostSide u) = hostSideOf (execIllegal opc s) u := by
  unfold execIllegal
  rw [State.hostSide_pc]
  split <;> simp

theorem execRaw_hostSide (level : Level) : execRaw level (s.hostSide u) = hostSideOf (execRaw level s) u := by
  unfold execRaw
  rw [State.hostSide_pc]
  split
  case h_1 => exact congrArg _ (State.gatedLine_hostSide (s := { s with opnd := s.argVal }) ..)
  all_goals simp

theorem execWaitIdle_hostSide : execWaitIdle (s.hostSide u) = hostSideOf (execWaitIdle s) u := by
  unfold execWaitIdle
  rw [State.hostSide_pc]
  split
  case h_1 => exact congrArg _ (State.gated_hostSide (by simp))
  all_goals simp

theorem execRender_hostSide : execRender (s.hostSide u) = hostSideOf (execRender s) u := by
  unfold execRender
  rw [State.hostSide_pc]
  split
  case h_1 =>
    rw [State.hostSide_canvasMatches]
    split
    · exact congrArg _ (State.validated_hostSide fun t => by simp)
    · simp
  case h_4 => exact congrArg _ (State.sendStep_hostSide { s with k := frameBytes - 1 } ..)
  all_goals simp

theorem execRefresh_hostSide : execRefresh (s.hostSide u) = hostSideOf (execRefresh s) u := by
  unfold execRefresh
  rw [State.hostSide_pc]
  split <;> simp

theorem execClear_hostSide : execClear (s.hostSide u) = hostSideOf (execClear s) u := by
  unfold execClear
  rw [State.hostSide_pc]
  split
  case h_1 =>
    rw [State.hostSide_argVal]
    split
    · exact congrArg _ (State.gatedLine_hostSide (s := { s with opnd := s.argVal }) ..)
    · rfl
  all_goals simp

theorem execInit_hostSide : execInit (s.hostSide u) = hostSideOf (execInit s) u := by
  unfold execInit
  simp only [State.hostSide_pc, State.hostSide_cfg, State.hostSide_i, State.hostSide_j]
  split
  case h_1 =>
    rw [State.hostSide_sessionLive]
    split <;> rfl
  case h_14 => split <;> simp
  case h_16 =>
    split
    · split <;> simp
    · rfl
  case h_12 | h_17 => rfl
  all_goals simp

theorem execSleep_hostSide : execSleep (s.hostSide u) = hostSideOf (execSleep s) u := by
  unfold execSleep
  rw [State.hostSide_pc]
  split
  case h_1 =>
    rw [State.hostSide_sessionLive, State.hostSide_busOpen]
    split
    · split <;> rfl
    · rfl
  all_goals simp

/-- A step of any operation is the same whatever the host's side is, and keeps that side. -/
theorem exec_hostSide (i : Instr) : exec i (s.hostSide u) = hostSideOf (exec i s) u := by
  cases i with
  | illegal opc => exact execIllegal_hostSide opc
  | init => exact execInit_hostSide
  | cmd => exact execRaw_hostSide false
  | data => exact execRaw_hostSide true
  | waitIdle => exact execWaitIdle_hostSide
  | render => exact execRender_hostSide
  | refresh => exact execRefresh_hostSide
  | clear => exact execClear_hostSide
  | sleep => exact execSleep_hostSide

/-! ## The host's step -/

/-- While an operation is active every access is a read, a drop or a write of STATUS: only the host's side changes. -/
theorem State.hostStep_hostSide (ha : s.active = true) : s.hostStep = s.hostSide s.hostStep := by
  obtain ⟨t, n, v, r, rest, -, h⟩ | ⟨l, k, r, rest, h⟩ := s.hostStep_cases
  · obtain ⟨-, hw⟩ | hw | hw | ⟨hf, -⟩ := s.writeTarget_cases t n v
    case inr.inr.inr => simp [ha] at hf
    all_goals rw [h, hw]; rfl
  · rw [h]; rfl

end

/-- Settles O53: the host's step by what its accesses can do, and each operation by the steps its rule is made of. -/
theorem hostStepsDoNotDisturbOperations : Obligations.HostStepsDoNotDisturbOperations :=
  ⟨fun _ ha => State.hostStep_hostSide ha, fun i _ _ => exec_hostSide i⟩

end Sys2Proof.Machine
end

section
/-! PROOFS. What a host access does to the state (20_memory.md R62 to R66), and that every step keeps the framebuffer's
canonical form (R60). -/

namespace Sys2Proof.Machine

/-! ## Reads (R66) -/

/-- Settles O60: a legal read draws at most a BUSY_IN answer, any other read only answers. -/
theorem hostReadsHaveNoSideEffect : Obligations.HostReadsHaveNoSideEffect := by
  intro s addr n
  unfold State.hostRead
  split
  · exact ⟨_, s.env.busyIns, s.env.nBusyIn, rfl⟩
  · split
    · exact ⟨_, s.env.busyIns, s.env.nBusyIn, rfl⟩
    · rename_i t _
      obtain ⟨ins, k, he⟩ := s.readTarget_env t n
      exact ⟨.value (s.readTarget t n).1, ins, k, by dsimp only; rw [he]⟩

/-! ## Legal accesses (R62) -/

/-- An access that R62 allows: a register by 4 bytes at its offset, or 1, 2 or 4 aligned bytes of the framebuffer. -/
def LegalAccess (off n : Nat) : Prop :=
  (n = 4 ∧ off % 4 = 0 ∧ off < 0x14) ∨
    ((n = 1 ∨ n = 2 ∨ n = 4) ∧ off % n = 0 ∧ 0x80000 ≤ off ∧ off + n ≤ 0xDDC00)

theorem hostTarget_legal {off n : Nat} {t : Target} (h : hostTarget off n = some t) : LegalAccess off n := by
  unfold hostTarget fbWindowEnd at h
  unfold LegalAccess
  split_ifs at h with _ _ _ _ _ hfb
  on_goal 6 => exact .inr hfb
  all_goals exact .inl (by omega)

theorem hostTarget_illegal {off n : Nat} (h : hostTarget off n = none) : ¬ LegalAccess off n := by
  unfold hostTarget fbWindowEnd at h
  unfold LegalAccess
  split_ifs at h
  omega

/-- Settles O8: the accesses that name a target are the legal ones, and what names none is answered with the fault. -/
theorem illegalHostAccessesFault : Obligations.IllegalHostAccessesFault := by
  intro s off n v hoff legal
  have ho := windowOffset_base (c := s.cfg) hoff
  cases ht : hostTarget off n with
  | none =>
    refine ⟨fun _ => ⟨?_, ?_⟩, fun hl => absurd hl (hostTarget_illegal ht)⟩
    · simp only [State.hostWrite, ho, ht]
    · simp only [State.hostRead, ho, ht]
  | some t =>
    refine ⟨fun hi => absurd (hostTarget_legal ht) hi, fun _ => ⟨?_, (s.readTarget t n).1, ?_⟩⟩
    · rw [State.hostWrite_legal ho ht]
    · rw [State.hostRead_legal ho ht]

/-! ## Bytes of the framebuffer (R63) -/

/-- A read after an n-byte write: byte m of the value in cell a + m, every other cell as before. -/
theorem Memory.read_writeBytes {m : List Host.Cell} {a n : Nat} (v : Word) (b : Nat) (hm : Memory.wf m = true)
    (h : a + n ≤ npix) :
    Memory.read (Memory.writeBytes m a v n) b =
      if a ≤ b ∧ b < a + n then v.extractLsb' (8 * (b - a)) 8 else Memory.read m b := by
  induction n with
  | zero => rw [if_neg (by omega)]; rfl
  | succ n ih =>
    rw [Memory.writeBytes, Memory.read_write (Memory.wf_writeBytes hm (by omega)), ih (by omega)]
    by_cases hb : b = a + n
    · rw [if_pos hb, if_pos (by omega), hb, Nat.add_sub_cancel_left]
    · simp only [hb, if_false, show (a ≤ b ∧ b < a + n) ↔ (a ≤ b ∧ b < a + (n + 1)) by omega]

/-- Bit b of an n-byte read is bit b mod 8 of the cell that holds byte b / 8; the bits above are 0. -/
theorem Memory.getLsbD_readBytes (m : List Host.Cell) (a : Nat) {n : Nat} (hn : n ≤ 4) (b : Nat) :
    (Memory.readBytes m a n).getLsbD b = (decide (b < 8 * n) && (Memory.read m (a + b / 8)).getLsbD (b % 8)) := by
  induction n with
  | zero => simp [Memory.readBytes]
  | succ n ih =>
    rw [Memory.readBytes, BitVec.getLsbD_or, ih (by omega), BitVec.getLsbD_shiftLeft, BitVec.getLsbD_setWidth]
    by_cases hlow : b < 8 * n
    · simp [hlow, show b < 8 * (n + 1) by omega]
    · by_cases hb : b < 8 * (n + 1)
      · have hdiv : b / 8 = n := by omega
        have hmod : b - 8 * n = b % 8 := by omega
        simp [hlow, hb, hdiv, hmod, show b < 32 by omega, show b % 8 < 32 by omega]
      · have hbit := BitVec.getLsbD_of_ge (Memory.read m (a + n)) (b - 8 * n) (by omega)
        simp [hlow, hb, hbit]

theorem Memory.extract_readBytes (m : List Host.Cell) (a : Nat) {n k : Nat} (hn : n ≤ 4) (hk : k < n) :
    (Memory.readBytes m a n).extractLsb' (8 * k) 8 = Memory.read m (a + k) := by
  refine BitVec.eq_of_getLsbD_eq fun b hb => ?_
  rw [BitVec.getLsbD_extractLsb', Memory.getLsbD_readBytes m a hn, show (8 * k + b) / 8 = k by omega,
    show (8 * k + b) % 8 = b by omega]
  simp [hb, show 8 * k + b < 8 * n by omega]

theorem Memory.readBytes_lt (m : List Host.Cell) (a : Nat) {n : Nat} (hn : n ≤ 4) :
    (Memory.readBytes m a n).toNat < 2 ^ (8 * n) := by
  refine Nat.lt_pow_two_of_testBit _ fun b hb => ?_
  rw [BitVec.testBit_toNat, Memory.getLsbD_readBytes m a hn]
  simp [hb]

/-- Cell `a` of the framebuffer, by an aligned access inside it (R22, R62). -/
theorem hostTarget_fbOffset {a n : Nat} (hn : n = 1 ∨ n = 2 ∨ n = 4) (ha : a % n = 0) (hin : a + n ≤ 384000) :
    hostTarget (0x80000 + a) n = some (.fb a) := by
  have haligned : (0x80000 + a) % n = 0 := by obtain rfl | rfl | rfl := hn <;> omega
  have hend : 0x80000 + a + n ≤ fbWindowEnd := by unfold fbWindowEnd; omega
  unfold hostTarget
  iterate 5 rw [if_neg (by omega)]
  rw [if_pos ⟨hn, haligned, by omega, hend⟩, Nat.add_sub_cancel_left]

/-- Settles O9: the access names cell a, and each byte of it goes to or comes from its own cell. -/
theorem framebufferIsLittleEndian : Obligations.FramebufferIsLittleEndian := by
  intro s a n v hm hn ha hin
  have hn4 : n ≤ 4 := by omega
  have ho : windowOffset s.cfg (s.cfg.hostBase + 0x80000 + a) = some (0x80000 + a) := by
    rw [Nat.add_assoc]
    exact windowOffset_base (by omega)
  have ht := hostTarget_fbOffset hn ha hin
  refine ⟨fun hidle => ⟨Memory.writeBytes s.fb a v n, ?_, Memory.wf_writeBytes hm hin, fun k hk => ?_, fun b hb => ?_⟩,
    Memory.readBytes s.fb a n, State.hostRead_legal ho ht, fun k hk => Memory.extract_readBytes s.fb a hn4 hk,
    Memory.readBytes_lt s.fb a hn4⟩
  · rw [State.hostWrite_legal ho ht, State.writeTarget, State.unlessActive_stored hidle]
  · rw [Memory.read_writeBytes v _ hm hin, if_pos (by omega), Nat.add_sub_cancel_left]
  · rw [Memory.read_writeBytes v b hm hin, if_neg (by omega)]

/-! ## The canonical form (R60) -/

/-- A host write inside the framebuffer keeps its canonical form, and no other write touches it. -/
theorem State.writeTarget_wf {s : State} {t : Target} {n : Nat} (hm : Memory.wf s.fb = true)
    (hin : ∀ a, t = .fb a → a + n ≤ npix) (v : Word) : Memory.wf (s.writeTarget t n v).fb = true := by
  obtain ⟨-, h⟩ | h | h | ⟨-, h | ⟨_, h⟩ | ⟨_, _, h⟩ | ⟨a, rfl, h⟩⟩ := s.writeTarget_cases t n v <;> rw [h]
  case inr.inr.inr.inr.inr.inr => exact Memory.wf_writeBytes hm (hin a rfl)
  all_goals exact hm

theorem State.hostStep_wf {s : State} (hm : Memory.wf s.fb = true) : Memory.wf s.hostStep.fb = true := by
  obtain ⟨t, n, v, _, _, hin, h⟩ | ⟨_, _, _, _, h⟩ := s.hostStep_cases <;> rw [h]
  · exact State.writeTarget_wf hm hin v
  · exact hm

/-- Settles O54: a block reset leaves some canonical form, no operation writes the framebuffer, and the host's writes keep
the form. -/
theorem stepsKeepTheFramebufferForm : Obligations.StepsKeepTheFramebufferForm := by
  intro s t hm h
  obtain ⟨contents, _, -, rfl⟩ | ⟨-, -, hx⟩ | ⟨-, rfl⟩ := step_cases h
  · exact Memory.wf_ofCells contents
  · obtain ⟨-, -, -, -, -, -, hfb, -⟩ := (exec_opStep hx).frame
    rwa [hfb, s.turnTaken_fb]
  · exact State.hostStep_wf (s.turnTaken_fb ▸ hm)

end Sys2Proof.Machine
end

section
/-! PROOFS. The host's turns (20_memory.md R71, R74): its accesses are made in program order, and an active operation waits
for finitely many of them. -/

namespace Sys2Proof.Machine

/-! ## Whose turn it is -/

/-- No access of the host touches the schedule or the counts of its steps. -/
theorem State.hostStep_turns (s : State) :
    s.hostStep.sched = s.sched ∧ s.hostStep.turns = s.turns ∧ s.hostStep.hostLeft = s.hostLeft := by
  obtain ⟨t, n, v, _, _, -, h⟩ | ⟨_, _, _, _, h⟩ := s.hostStep_cases <;> rw [h]
  · obtain ⟨-, h⟩ | h | h | ⟨-, h | ⟨_, h⟩ | ⟨_, _, h⟩ | ⟨_, -, h⟩⟩ := s.writeTarget_cases t n v <;> rw [h] <;>
      exact ⟨rfl, rfl, rfl⟩
  · exact ⟨rfl, rfl, rfl⟩

theorem step_of_host {s : State} (h : s.mover = .host) : step s = .next s.turnTaken.hostStep := by
  simp [step, State.agentStep, h]

theorem State.active_after_host {s t : State} (ha : s.active = true) (hm : s.mover = .host) (h : step s = .next t) :
    t.active = true := by
  rw [step_of_host hm, Host.Outcome.next.injEq] at h
  rw [← h, State.hostStep_hostSide (s.turnTaken_active.trans ha)]
  exact s.turnTaken_active.trans ha

/-- Each step of the host brings the step of an active operation nearer: the schedule is shorter, or past its end fewer of
the host's steps are left (R74). -/
theorem State.host_turn_passes {s t : State} (ha : s.active = true) (hm : s.mover = .host) (h : step s = .next t) :
    t.sched.length < s.sched.length ∨ t.sched.length = s.sched.length ∧ t.hostTurns < s.hostTurns := by
  rw [step_of_host hm, Host.Outcome.next.injEq] at h
  subst h
  obtain ⟨hsched, hturns, hleft⟩ := s.turnTaken.hostStep_turns
  cases hs : s.sched with
  | nil =>
    obtain ⟨-, left, hl, htaken⟩ := State.mover_host_past_end hs ha hm
    refine .inr ⟨by rw [hsched, htaken, hs], ?_⟩
    rw [State.hostTurns, hleft, htaken, hl]
    exact Nat.lt_succ_self left
  | cons turn rest =>
    refine .inl ?_
    rw [hsched, State.turnTaken_cons hs]
    exact Nat.lt_succ_self _

theorem step_of_host_turn {s : State} {turn : Turn} {rest : List Turn} (hs : s.sched = turn :: rest)
    (hm : s.mover = .host) : step s = .next { s with sched := rest }.hostStep := by
  rw [step_of_host hm, State.turnTaken_cons hs]

/-- A `wait` is a read of STATUS, which stays as long as an operation is active (R72, R101). -/
theorem State.hostStep_wait {s : State} {items : List HostItem} (h : s.hostProg = .wait :: items) :
    s.hostStep =
      { s.hostRead (s.cfg.hostBase + 0x0000C) 4 with hostProg := if s.active then .wait :: items else items } := by
  have hread : (s.readTarget .status 4).1.getLsbD 3 = s.active := s.statusWord_active _
  rw [State.hostRead_register (t := .status) rfl]
  simp only [State.hostStep, h, hread]
  cases s.active <;> rfl

/-- From every point at which an operation is active, the sequencer moves after finitely many of the host's steps, or a
block reset does (R74). -/
theorem IsRun.sequencer_moves {r : Nat → State} (hr : IsRun r) (k : Nat) (ha : (r k).active = true) :
    ∃ j, k ≤ j ∧ (∀ m, k ≤ m → m ≤ j → (r m).active = true) ∧
      ((r j).mover = .sequencer ∨ ∃ contents, (r j).mover = .blockReset contents) := by
  have here : ∀ m, k ≤ m → m ≤ k → (r m).active = true := fun m hm hm' => Nat.le_antisymm hm' hm ▸ ha
  cases hm : (r k).mover with
  | sequencer => exact ⟨k, le_rfl, here, .inl hm⟩
  | blockReset contents => exact ⟨k, le_rfl, here, .inr ⟨contents, hm⟩⟩
  | host =>
    have hpasses := State.host_turn_passes ha hm (hr k)
    have ha' : (r (k + 1)).active = true := State.active_after_host ha hm (hr k)
    obtain ⟨j, hkj, hact, hj⟩ := hr.sequencer_moves (k + 1) ha'
    refine ⟨j, by omega, fun m hm hm' => ?_, hj⟩
    obtain rfl | hlt := Nat.eq_or_lt_of_le hm
    · exact ha
    · exact hact m hlt hm'
termination_by ((r k).sched.length, (r k).hostTurns)
decreasing_by
  rw [Prod.lex_def]
  exact hpasses

/-- Settles O5: whose turn it is, what the host's step makes of its program, and the host's turns before the sequencer's
being finitely many. -/
theorem hostMovesInProgramOrder : Obligations.HostMovesInProgramOrder := by
  refine ⟨fun s rest => ⟨fun hs hp => ?_, fun hs ha => ?_, fun hs ha => ?_⟩,
    fun s items => ⟨State.hostStep_nil, fun addr n v hp => ?_, fun addr n hp => ?_, State.hostStep_wait⟩,
    fun r hr => hr.sequencer_moves⟩
  · exact step_of_host_turn hs (by simp [State.mover, hs, hp])
  · exact step_of_host_turn hs (by simp [State.mover, hs, ha])
  · rw [step_of_host (by simp [State.mover, hs, ha])]
    simp [State.turnTaken, hs, ha]
  · simp only [State.hostStep, hp]
  · simp only [State.hostStep, hp]

end Sys2Proof.Machine
end

section
/-! PROOFS. The operation word (30_encoding.md R90 to R93): decoding its bytes inverts encoding, bits 3:0 select
the row, and bits 31:4 select nothing. -/

namespace Sys2Proof

/-! ## The byte layout of a word (20_memory.md R63) -/

/-- A word is made of its four bytes. -/
theorem leWord_bytes (v : Word) :
    leWord (v.extractLsb' 0 8) (v.extractLsb' 8 8) (v.extractLsb' 16 8) (v.extractLsb' 24 8) = v := by
  unfold leWord
  rw [BitVec.append_assoc, BitVec.append_assoc]
  simp only [BitVec.extractLsb'_append_extractLsb'_eq_extractLsb', BitVec.extractLsb'_eq_self, BitVec.cast_eq]

/-- The decoder reads the operation of a word from its four bytes and leaves what follows them. -/
theorem decodeBytes_leBytes (v : Word) (rest : List Byte) :
    decodeBytes (leBytes v ++ rest) = .ok (decodeWord v, rest) := by
  simp only [leBytes, List.cons_append, List.nil_append, decodeBytes, leWord_bytes]

/-! ## The operation code (R90 to R92) -/

theorem opcOf_append (ign : BitVec 28) (opc : BitVec 4) : opcOf (ign ++ opc) = opc :=
  BitVec.extractLsb'_append_eq_right

/-- A word is its ignored bits and its operation code (R90). -/
theorem append_opcOf (v : Word) : v.extractLsb' 4 28 ++ opcOf v = v := by
  rw [opcOf]
  exact (BitVec.extractLsb'_append_extractLsb'_eq_extractLsb' rfl).trans BitVec.extractLsb'_eq_self

theorem Instr.wf_illegal {opc : BitVec 4} : (Instr.illegal opc).wf = true ↔ opc = 0x0#4 ∨ 0x9#4 ≤ opc := by
  simp [Instr.wf, reservedOpc]

/-- The operation code of a well-formed instruction selects it (R91, R92). -/
theorem decodeOpc_opc {i : Instr} (h : i.wf = true) : decodeOpc i.opc = i := by
  cases i with
  | illegal opc => exact Laws.RowCode.illegal opc h
  | _ => rfl

/-- Every operation code selects a row of the table, and it is the code of that row (R91, R92). -/
theorem decodeOpc_wf_opc : ∀ opc : BitVec 4, (decodeOpc opc).wf = true ∧ (decodeOpc opc).opc = opc := by decide

/-! ## Decoding an encoded instruction (R93) -/

/-- The operation word of a well-formed instruction decodes to it, whatever its ignored bits. -/
theorem decodeWord_encodeWith {i : Instr} (h : i.wf = true) (ign : BitVec 28) : decodeWord (encodeWith i ign) = i := by
  rw [decodeWord, encodeWith, opcOf_append, decodeOpc_opc h]

/-- Settles O2: the bytes give back the word, the word its operation code and the code its row; conversely a word is its
ignored bits and the code of the row it selects. -/
theorem decodeOfEncodeIsTheInstruction : Obligations.DecodeOfEncodeIsTheInstruction := by
  refine ⟨fun i ign rest h => ?_, fun v => ?_⟩
  · rw [decodeBytes_leBytes, decodeWord_encodeWith h]
  · obtain ⟨hwf, hopc⟩ := decodeOpc_wf_opc (opcOf v)
    exact ⟨hwf, by rw [encodeWith, decodeWord, hopc, append_opcOf]⟩

/-- Settles O1: decoding goes through the operation code, and each word of the table is its row's
operation word. -/
theorem decodingReadsBits3To0Only : Obligations.DecodingReadsBits3To0Only :=
  ⟨fun _ _ h => congrArg decodeOpc h, fun ign =>
    ⟨decodeWord_encodeWith (i := .init) rfl ign, decodeWord_encodeWith (i := .cmd) rfl ign,
      decodeWord_encodeWith (i := .data) rfl ign, decodeWord_encodeWith (i := .waitIdle) rfl ign,
      decodeWord_encodeWith (i := .render) rfl ign, decodeWord_encodeWith (i := .refresh) rfl ign,
      decodeWord_encodeWith (i := .clear) rfl ign, decodeWord_encodeWith (i := .sleep) rfl ign,
      fun opc h => decodeWord_encodeWith (i := .illegal opc) (Instr.wf_illegal.mpr h) ign⟩⟩

/-- The bits of an operation word, read from the table, give the instruction. -/
theorem decodeTableWord_encodeWith {i : Instr} (h : i.wf = true) (ign : BitVec 28) :
    decodeTableWord 32 (encodeWith i ign).toNat = some i := by
  have hbytes := decodeBytes_leBytes (encodeWith i ign) []
  rw [List.append_nil, decodeWord_encodeWith h] at hbytes
  rw [decodeTableWord, Nat.mod_eq_of_lt (BitVec.isLt _), BitVec.ofNat_toNat, BitVec.setWidth_eq, hbytes]

/-- Settles O3: each number is the operation word of its row, with the ignored bits it shows. -/
theorem writtenOutWordsDecodeToTheirRows : Obligations.WrittenOutWordsDecodeToTheirRows :=
  ⟨decodeTableWord_encodeWith (i := .init) rfl 0#28, decodeTableWord_encodeWith (i := .init) rfl 0xFFFFFFF#28,
    decodeTableWord_encodeWith (i := .cmd) rfl 0#28, decodeTableWord_encodeWith (i := .render) rfl 0#28,
    decodeTableWord_encodeWith (i := .sleep) rfl 0#28, decodeTableWord_encodeWith (i := .illegal 0xF#4) rfl 0#28⟩

end Sys2Proof
end

section
/-! PROOFS. The host's pseudo-instruction FILL (30_encoding.md R101): each of its accesses stores four cells (R63), and
together they store every cell. -/

namespace Sys2Proof.Machine

/-- The host makes one access, its only one. -/
def State.access (s : State) (item : HostItem) : State := { s with hostProg := [item] }.hostStep

/-- A word of four equal bytes has that byte at each of its places. -/
theorem extract_append_same (c : Byte) {k : Nat} (hk : k < 4) : (c ++ c ++ c ++ c).extractLsb' (8 * k) 8 = c := by
  have peel {w start : Nat} {hi : BitVec w} (h : 8 ≤ start) :
      (hi ++ c).extractLsb' start 8 = hi.extractLsb' (start - 8) 8 := BitVec.extractLsb'_append_eq_of_le h
  interval_cases k
  · exact BitVec.extractLsb'_append_eq_right
  · rw [peel (by decide)]
    exact BitVec.extractLsb'_append_eq_right
  · rw [peel (by decide), peel (by decide)]
    exact BitVec.extractLsb'_append_eq_right
  · rw [peel (by decide), peel (by decide), peel (by decide)]
    exact BitVec.extractLsb'_eq_self

/-- One access of FILL: cells 4k to 4k + 3 hold the byte, every other cell is as before (R63). -/
theorem State.access_fill {s : State} (c : Byte) {k : Nat} (hm : Memory.wf s.fb = true) (ha : s.active = false)
    (hp : s.hostProg = []) (hk : k < 96000) :
    ∃ m, s.access (wrfb s.cfg (4 * k) 4 (c ++ c ++ c ++ c)) = { s with fb := m, resp := .written } ∧
      Memory.wf m = true ∧
      ∀ a, Memory.read m a = if 4 * k ≤ a ∧ a < 4 * k + 4 then c else Memory.read s.fb a := by
  obtain ⟨hstore, -⟩ := framebufferIsLittleEndian { s with hostProg := [wrfb s.cfg (4 * k) 4 (c ++ c ++ c ++ c)] }
    (4 * k) 4 (c ++ c ++ c ++ c) hm (by omega) (by omega) (by omega)
  obtain ⟨m, hwrite, hwf, hin, hout⟩ := hstore ha
  refine ⟨m, ?_, hwf, fun a => ?_⟩
  · simp only [State.access, State.hostStep, wrfb, offFb] at hwrite ⊢
    rw [hwrite, ← hp]
  · split_ifs with h
    · obtain ⟨j, rfl⟩ := Nat.exists_eq_add_of_le h.1
      exact (hin j (by omega)).trans (extract_append_same c (by omega))
    · exact hout a (by omega)

/-- The first `k` accesses of FILL: the first 4k cells hold the byte, and nothing else changed but the answer. -/
theorem foldl_access_fill {s : State} (c : Byte) (hm : Memory.wf s.fb = true) (ha : s.active = false)
    (hp : s.hostProg = []) {k : Nat} (hk : k ≤ 96000) :
    ∃ m r, ((List.range k).map fun j => wrfb s.cfg (4 * j) 4 (c ++ c ++ c ++ c)).foldl State.access s =
        { s with fb := m, resp := r } ∧
      (0 < k → r = .written) ∧ Memory.wf m = true ∧ ∀ a, a < 4 * k → Memory.read m a = c := by
  induction k with
  | zero => exact ⟨s.fb, s.resp, rfl, by omega, hm, by omega⟩
  | succ k ih =>
    obtain ⟨m, r, hfold, -, hwf, hcells⟩ := ih (by omega)
    obtain ⟨m', haccess, hwf', hread⟩ := State.access_fill (s := { s with fb := m, resp := r }) c hwf ha hp hk
    refine ⟨m', .written, ?_, fun _ => rfl, hwf', fun a hlt => ?_⟩
    · rw [List.range_succ, List.map_append, List.foldl_append, hfold]
      exact haccess
    · rw [hread]
      split_ifs with h
      · rfl
      · exact hcells a (by omega)

/-- Settles O12, by induction on the number of accesses made. -/
theorem fillWritesEveryCell : Obligations.FillWritesEveryCell := by
  intro s c hm ha hp t
  obtain ⟨m, r, hfold, hr, -, hcells⟩ := foldl_access_fill c hm ha hp le_rfl
  obtain rfl := hr (by omega)
  have ht : t = { s with fb := m, resp := .written } := hfold
  rw [ht]
  exact ⟨hcells, rfl⟩

end Sys2Proof.Machine
end

section
/-! PROOFS. The wire packer, the frame stream and the fill (40_wire_packer.md R120 to R127), and what they say of the bytes
that RENDER and CLEAR send (R123, 44_frame_ops.md R193). -/

namespace Sys2Proof.Machine

/-! ## Palette indices and their nibbles (R94, R96, R120) -/

theorem valid_iff {v : Byte} : valid v = true ↔ v ≤ 6#8 := by simp [valid]

/-- The nibble of a palette index is a palette index. -/
theorem nibble_le {v : Byte} (h : v ≤ 6#8) : nibble v ≤ 6#4 := by
  simp only [nibble, BitVec.le_def, BitVec.extractLsb'_toNat, BitVec.toNat_ofNat] at h ⊢
  omega

/-- A palette index is the byte of its nibble. -/
theorem setWidth_nibble {v : Byte} (h : v ≤ 6#8) : (nibble v).setWidth 8 = v := by
  apply BitVec.eq_of_toNat_eq
  simp only [nibble, BitVec.le_def, BitVec.toNat_setWidth, BitVec.extractLsb'_toNat, BitVec.toNat_ofNat] at h ⊢
  omega

@[simp] theorem lane0_packPair (a b : Byte) : lane0 (packPair a b) = nibble a :=
  BitVec.extractLsb'_append_eq_left

@[simp] theorem lane1_packPair (a b : Byte) : lane1 (packPair a b) = nibble b :=
  BitVec.extractLsb'_append_eq_right

/-- The packed byte in R121's form; only the second pixel has to fit its nibble. -/
theorem packPair_eq (a : Byte) {b : Byte} (hb : b ≤ 6#8) : packPair a b = (a <<< 4) ||| b := by
  have ha : (nibble a).setWidth 8 <<< 4 = a <<< 4 := by
    apply BitVec.eq_of_toNat_eq
    simp only [nibble, BitVec.toNat_shiftLeft, BitVec.toNat_setWidth, BitVec.extractLsb'_toNat, Nat.shiftLeft_eq]
    omega
  rw [packPair, BitVec.append_def, BitVec.shiftLeftZeroExtend_eq, BitVec.setWidth'_eq, ha, setWidth_nibble hb]

theorem lane0_eq (b : Byte) : (lane0 b).setWidth 8 = b >>> 4 := by
  apply BitVec.eq_of_toNat_eq
  simp only [lane0, BitVec.toNat_setWidth, BitVec.extractLsb'_toNat, BitVec.toNat_ushiftRight, Nat.shiftRight_eq_div_pow]
  omega

theorem lane1_eq (b : Byte) : (lane1 b).setWidth 8 = b &&& 0x0F#8 := by
  apply BitVec.eq_of_toNat_eq
  have hmask : b.toNat &&& 15 = b.toNat % 16 := Nat.and_two_pow_sub_one_eq_mod b.toNat 4
  simp only [lane1, BitVec.toNat_setWidth, BitVec.extractLsb'_toNat, BitVec.toNat_and, BitVec.toNat_ofNat, hmask]
  omega

/-! ## The palette check (R121) -/

theorem firstInvalidFrom_none {s : List Byte} (h : ∀ v ∈ s, v ≤ 6#8) (n : Nat) : firstInvalidFrom n s = none := by
  induction s generalizing n with
  | nil => rfl
  | cons v r ih =>
    obtain ⟨hv, hr⟩ := List.forall_mem_cons.mp h
    rw [firstInvalidFrom, if_pos (valid_iff.mpr hv), ih hr]

theorem firstInvalidFrom_some {s : List Byte} {i : Nat} {v : Byte} (hi : s[i]? = some v) (hv : ¬ v ≤ 6#8)
    (hlow : ∀ (j : Nat) (w : Byte), j < i → s[j]? = some w → w ≤ 6#8) (n : Nat) :
    firstInvalidFrom n s = some (n + i) := by
  induction s generalizing i n with
  | nil => simp at hi
  | cons w r ih =>
    cases i with
    | zero =>
      obtain rfl : w = v := by simpa using hi
      rw [firstInvalidFrom, if_neg (mt valid_iff.mp hv), Nat.add_zero]
    | succ i =>
      have hw : w ≤ 6#8 := hlow 0 w (Nat.succ_pos i) rfl
      rw [firstInvalidFrom, if_pos (valid_iff.mpr hw),
        ih hi (fun j u hj hu => hlow (j + 1) u (Nat.succ_lt_succ hj) hu), Nat.add_right_comm, Nat.add_assoc]

/-! ## The packed pairs (R121) -/

theorem length_packPairs (s : List Byte) : (packPairs s).length = s.length / 2 := by
  induction s using packPairs.induct with
  | case1 a b r ih => simp only [packPairs, List.length_cons, ih]; omega
  | case2 s hs =>
    match s with
    | [] | [_] => simp [packPairs]
    | a :: b :: r => exact absurd rfl (hs a b r)

theorem getElem?_packPairs {s : List Byte} {k : Nat} {x y : Byte} (hx : s[2 * k]? = some x)
    (hy : s[2 * k + 1]? = some y) : (packPairs s)[k]? = some (packPair x y) := by
  induction k generalizing s with
  | zero =>
    match s with
    | [] | [_] => simp at hy
    | a :: b :: r => simpa [packPairs] using congrArg₂ packPair (Option.some.inj hx) (Option.some.inj hy)
  | succ k ih =>
    match s with
    | [] | [_] => simp at hy
    | a :: b :: r => exact ih (s := r) hx hy

/-- The pairs of a sequence given by its index. -/
theorem packPairs_map_range (f : Nat → Byte) (n : Nat) :
    packPairs ((List.range (2 * n)).map f) = (List.range n).map fun k => packPair (f (2 * k)) (f (2 * k + 1)) := by
  have hlen : (packPairs ((List.range (2 * n)).map f)).length = n := by simp [length_packPairs]
  refine List.ext_getElem? fun k => ?_
  by_cases hk : k < n
  · have hcell {j : Nat} (hj : j < 2 * n) : ((List.range (2 * n)).map f)[j]? = some (f j) := by simp [hj]
    rw [getElem?_packPairs (hcell (by omega)) (hcell (by omega))]
    simp [hk]
  · rw [List.getElem?_eq_none (by omega), List.getElem?_eq_none (by simpa using hk)]

/-! ## Packing and unpacking (R121, R124) -/

theorem pack_odd {s : List Byte} (h : s.length % 2 = 1) : pack s = .error .oddLength := if_pos h

theorem pack_valid {s : List Byte} (heven : s.length % 2 = 0) (h : ∀ v ∈ s, v ≤ 6#8) : pack s = .ok (packPairs s) := by
  rw [pack, if_neg (by omega), firstInvalidFrom_none h]

/-- Settles O16: the length is checked first, then the palette from index 0 on, and what passes is packed in pairs. -/
theorem packRejectsAndPacks : Obligations.PackRejectsAndPacks := by
  refine fun s => ⟨pack_odd, fun heven i v hi hv hlow => ?_, fun heven h => ?_⟩
  · rw [pack, if_neg (by omega), firstInvalidFrom_some hi hv hlow, Nat.zero_add]
  · refine ⟨_, pack_valid heven h, length_packPairs s, fun k x y hx hy => ?_⟩
    rw [getElem?_packPairs hx hy, packPair_eq x (h y (List.mem_of_getElem? hy))]

theorem length_unpack (b : List Byte) : (unpack b).length = 2 * b.length := by
  induction b with
  | nil => rfl
  | cons x r ih => simp only [unpack, List.length_cons, ih]; omega

theorem getElem?_unpack {b : List Byte} {k : Nat} {x : Byte} (h : b[k]? = some x) :
    (unpack b)[2 * k]? = some (x >>> 4) ∧ (unpack b)[2 * k + 1]? = some (x &&& 0x0F#8) := by
  induction b generalizing k with
  | nil => simp at h
  | cons y r ih =>
    cases k with
    | zero =>
      obtain rfl : y = x := by simpa using h
      exact ⟨congrArg some (lane0_eq y), congrArg some (lane1_eq y)⟩
    | succ k => exact ih (k := k) h

theorem unpack_packPairs {s : List Byte} (heven : s.length % 2 = 0) (h : ∀ v ∈ s, v ≤ 6#8) :
    unpack (packPairs s) = s := by
  induction s using packPairs.induct with
  | case1 a b r ih =>
    simp only [List.forall_mem_cons] at h
    obtain ⟨ha, hb, hr⟩ := h
    rw [packPairs, unpack, lane0_packPair, lane1_packPair, setWidth_nibble ha, setWidth_nibble hb,
      ih (by simp only [List.length_cons] at heven; omega) hr]
  | case2 s hs =>
    match s with
    | [] => rfl
    | [_] => simp at heven
    | a :: b :: r => exact absurd rfl (hs a b r)

/-- Settles O17: each packed byte holds the nibbles of its two pixels, and a palette index is the byte of its nibble. -/
theorem unpackOfPackRecoversThePixels : Obligations.UnpackOfPackRecoversThePixels :=
  ⟨fun b => ⟨length_unpack b, fun _ _ h => getElem?_unpack h⟩,
    fun _ heven h => ⟨_, pack_valid heven h, unpack_packPairs heven h⟩⟩

/-! ## The frame stream and the fill (R122, R125) -/

theorem frame_eq_map (m : List Host.Cell) :
    frame m = (List.range frameBytes).map fun k => packPair (Memory.read m (2 * k)) (Memory.read m (2 * k + 1)) := by
  unfold frame
  rfl

theorem length_frame (m : List Host.Cell) : (frame m).length = frameBytes := by
  rw [frame_eq_map, List.length_map, List.length_range]

theorem getElem?_frame (m : List Host.Cell) {k : Nat} (hk : k < frameBytes) :
    (frame m)[k]? = some (packPair (Memory.read m (2 * k)) (Memory.read m (2 * k + 1))) := by
  rw [frame_eq_map, List.getElem?_map, List.getElem?_range hk, Option.map_some]

theorem frame_eq_packPairs (m : List Host.Cell) : frame m = packPairs ((List.range npix).map (Memory.read m)) := by
  rw [frame_eq_map, ← packPairs_map_range]
  rfl

theorem length_fill (c : Byte) : (fill c).length = frameBytes := by rw [fill, List.length_replicate]

/-- Every byte of the frame packs two cells of the framebuffer. -/
theorem exists_cells_of_mem_frame {m : List Host.Cell} {b : Byte} (hb : b ∈ frame m) :
    ∃ p q, p < npix ∧ q < npix ∧ packPair (Memory.read m p) (Memory.read m q) = b := by
  rw [frame_eq_map, List.mem_map] at hb
  obtain ⟨k, hk, hb⟩ := hb
  have hlt : k < 192000 := List.mem_range.mp hk
  have hcells : 2 * k + 1 < 384000 := by omega
  exact ⟨2 * k, 2 * k + 1, Nat.lt_of_succ_lt hcells, hcells, hb⟩

/-- Settles O18: the frame stream is the pairs of all cells, which pack gives once they pass its check; a row has an even
number of pixels. -/
theorem frameIsThePackOfAllCells : Obligations.FrameIsThePackOfAllCells := by
  refine ⟨fun m => ⟨length_frame m, fun k hk => getElem?_frame m hk, fun h => ?_⟩, fun k _ => ⟨rfl, ?_⟩⟩
  · rw [frame_eq_packPairs]
    exact pack_valid (by rw [List.length_map, List.length_range])
      (List.forall_mem_map.mpr fun a ha => h a (List.mem_range.mp ha))
  · have hrow : (2 * k + 1) / 800 = 2 * k / 800 := by omega
    exact congrArg _ hrow

/-- Settles O19: every pair of the fill, and of a frame of one colour, is the same byte. -/
theorem fillIsTheFrameOfOneColour : Obligations.FillIsTheFrameOfOneColour := by
  refine fun c m hc => ⟨by rw [fill, packPair_eq c hc]; rfl, fun h => ?_⟩
  rw [fill, List.eq_replicate_iff]
  refine ⟨length_frame m, fun b hb => ?_⟩
  obtain ⟨p, q, hp, hq, rfl⟩ := exists_cells_of_mem_frame hb
  rw [h p hp, h q hq]

/-! ## The bulk write (R123, R193) -/

/-- Both nibbles of a packed byte are palette indices (R123). -/
def nibblesValid (b : Byte) : Prop := lane0 b ≤ 6#4 ∧ lane1 b ≤ 6#4

theorem nibblesValid_packPair {a b : Byte} (ha : a ≤ 6#8) (hb : b ≤ 6#8) : nibblesValid (packPair a b) :=
  ⟨lane0_packPair a b ▸ nibble_le ha, lane1_packPair a b ▸ nibble_le hb⟩

theorem nibblesValid_of_mem_frame {m : List Host.Cell} (h : ∀ a, a < npix → valid (Memory.read m a) = true) :
    ∀ b ∈ frame m, nibblesValid b := by
  intro b hb
  obtain ⟨p, q, hp, hq, rfl⟩ := exists_cells_of_mem_frame hb
  exact nibblesValid_packPair (valid_iff.mp (h p hp)) (valid_iff.mp (h q hq))

theorem nibblesValid_of_mem_fill {c : Byte} (h : valid c = true) : ∀ b ∈ fill c, nibblesValid b := by
  intro b hb
  rw [fill] at hb
  exact List.eq_of_mem_replicate hb ▸ nibblesValid_packPair (valid_iff.mp h) (valid_iff.mp h)

/-- The write that a write step records: the bytes it was given, at the level of DC (R142). -/
theorem State.sendStep_write {s : State} {sent bytes : List Byte} {next : Pc} {dc : Level} {ok : Bool}
    (h : (s.sendStep sent next).log = s.log ++ [.write dc bytes ok]) : dc = s.dc ∧ bytes = sent := by
  rw [State.sendStep_log, List.append_cancel_left_eq] at h
  cases h
  exact ⟨rfl, rfl⟩

/-- At their bulk write RENDER and CLEAR stand with DC 1 (R193) and with what the position says of the bytes. -/
theorem frameOk_bulk {s : State} {bulk : Prop} (h : frameOk s bulk) (hpc : s.pc = .rule 3) : s.dc = true ∧ bulk := by
  rw [frameOk, hpc] at h
  obtain ⟨-, -, -, hdc, hbulk⟩ := h
  exact ⟨hdc rfl, hbulk⟩

/-- Settles O39: the invariant holds DC at 1 and the pixels valid where RENDER sends the frame and CLEAR its fill. -/
theorem bulkBytesHoldPaletteIndices : Obligations.BulkBytesHoldPaletteIndices := by
  rintro i s t dc bytes ok hi ha hop (rfl | rfl) hpc hx hlog
  · have hpos : frameOk s (∀ a, a < npix → valid (Memory.read s.fb a) = true) := by
      simpa only [positionOk, hop] using hi.position ha
    obtain ⟨hdc, hvalid⟩ := frameOk_bulk hpos hpc
    simp only [exec, execRender, hpc, Host.Outcome.next.injEq] at hx
    subst hx
    obtain ⟨rfl, rfl⟩ := State.sendStep_write (s := { s with k := frameBytes - 1 }) hlog
    exact ⟨length_frame s.fb, hdc, nibblesValid_of_mem_frame hvalid⟩
  · have hpos : frameOk s (valid s.opnd = true) := by simpa only [positionOk, hop] using hi.position ha
    obtain ⟨hdc, hvalid⟩ := frameOk_bulk hpos hpc
    simp only [exec, execClear, hpc, Host.Outcome.next.injEq] at hx
    subst hx
    obtain ⟨rfl, rfl⟩ := State.sendStep_write hlog
    exact ⟨length_fill s.opnd, hdc, nibblesValid_of_mem_fill hvalid⟩

end Sys2Proof.Machine
end

section
/-! PROOFS. The write, delay and sample of an operation's step (41_bus_primitives.md R142, R147, R148), and where the
sequencer goes from them: a failed write to its raise (R150), a busy sample to a delay and a new sample or to the raise
of the timeout (R228). -/

namespace Sys2Proof

/-! ## Which operation does what -/

/-- The operations whose raise is a step of its own: ILLEGAL raises in its only step, SLEEP defers it (R211, R222). -/
def Instr.aborts : Instr → Bool
  | .illegal _ | .sleep => false
  | .init | .cmd | .data | .waitIdle | .render | .refresh | .clear => true

/-- The operations that end with Refresh() (R190, R196, R199). -/
def Instr.endsInRefresh (i : Instr) : Prop := i = .render ∨ i = .refresh ∨ i = .clear

/-- The positions of an operation's rule whose step is a write. -/
def Instr.writesAt : Instr → Machine.Pc → Prop
  | .init, .rule n => n = 13 ∨ n = 15
  | .cmd, .rule n | .data, .rule n => n = 1
  | .render, .rule n | .clear, .rule n | .sleep, .rule n => n = 1 ∨ n = 3
  | .render, .handshake n | .refresh, .handshake n | .clear, .handshake n =>
    n = 1 ∨ n = 6 ∨ n = 8 ∨ n = 13 ∨ n = 15
  | _, _ => False

theorem Instr.aborts_of_writesAt {i : Instr} {pc : Machine.Pc} (h : i.writesAt pc) (hs : i ≠ .sleep) :
    i.aborts = true := by
  cases i with
  | illegal => exact h.elim
  | sleep => exact absurd rfl hs
  | init | cmd | data | waitIdle | render | refresh | clear => rfl

end Sys2Proof

namespace Sys2Proof.Machine

/-! ## The raise of a failed primitive (R226) -/

theorem State.raise_eq (s : State) (e : Err) (d : BitVec 2) :
    s.raise e d = { s with err := e, detail := d, active := false, log := s.log ++ [.done e d] } := rfl

section
variable {i : Instr} {s t u : State} {e : Err} {d : BitVec 2}

/-- At a raise position the next step of the operation is that raise (R226). -/
theorem exec_abort (hi : i.aborts = true) (hpc : s.pc = .abort e d) : exec i s = .next (s.raise e d) := by
  cases i with
  | illegal | sleep => cases hi
  | init => simp only [exec, execInit, hpc]
  | cmd => simp only [exec, execCmd, hpc]
  | data => simp only [exec, execData, hpc]
  | waitIdle => simp only [exec, execWaitIdle, hpc]
  | render => simp only [exec, execRender, hpc]
  | refresh => simp only [exec, execRefresh, hpc]
  | clear => simp only [exec, execClear, hpc]

/-! ## Where an operation writes (R142) -/

/-- Where an operation writes, the bus is open: the gate, or INIT's or SLEEP's own first steps, saw to it (R183). -/
theorem busOpen_of_writesAt (h : positionOk s) (hat : (decodeOpc s.op).writesAt s.pc) : s.busOpen = true := by
  unfold Instr.writesAt at hat
  split at hat
  case h_1 hop hpc =>
    rw [positionOk_init hop, initOk, hpc] at h
    obtain rfl | rfl := hat
    all_goals
      obtain ⟨-, -, hb, -⟩ := h
      exact hb
  case h_2 hop hpc =>
    rw [positionOk_raw (.inl ⟨hop, rfl⟩), rawOk, hpc, hat] at h
    exact h.2.1
  case h_3 hop hpc =>
    rw [positionOk_raw (.inr ⟨hop, rfl⟩), rawOk, hpc, hat] at h
    exact h.2.1
  case h_4 hop hpc | h_5 hop hpc =>
    simp only [positionOk, hop, frameOk, hpc] at h
    obtain rfl | rfl := hat
    all_goals
      obtain ⟨-, hb, -⟩ := h
      exact hb
  case h_6 hop hpc =>
    simp only [positionOk, hop, sleepOk, hpc] at h
    obtain rfl | rfl := hat
    all_goals
      obtain ⟨-, -, hb, -⟩ := h
      exact hb (by decide)
  case h_7 hop hpc => exact ((positionOk_handshake (.inl hop) hpc).mp h).2.1
  case h_8 hop hpc => exact ((positionOk_handshake (.inr (.inl hop)) hpc).mp h).2.1
  case h_9 hop hpc => exact ((positionOk_handshake (.inr (.inr hop)) hpc).mp h).2.1
  case h_10 => exact hat.elim

/-! ## The poll loop (R148) -/

/-- The positions of a PollIdle in the rule of `i`: the sample at `again` goes to the delay at `wait`, which comes back
to it, or leaves at `exit`, or ends at the raise. -/
structure PollLoop (i : Instr) (wait again exit : Pc) : Prop where
  delays : ∀ u : State, u.pc = wait → exec i u = .next (u.pollWait again)
  samples : ∀ u : State, u.pc = again → exec i u = .next (u.pollStep wait exit)
  aborts : i.aborts = true

theorem pollLoop_init : PollLoop .init (.rule 9) (.rule 10) (.rule 11) :=
  ⟨fun _ h => by simp only [exec, execInit, h], fun _ h => by simp only [exec, execInit, h], rfl⟩

theorem pollLoop_waitIdle : PollLoop .waitIdle (.rule 1) (.rule 2) (.rule 3) :=
  ⟨fun _ h => by simp only [exec, execWaitIdle, h], fun _ h => by simp only [exec, execWaitIdle, h], rfl⟩

/-- At a position of Refresh() the step is that of Refresh() (R197). -/
theorem exec_handshake {n : Nat} (hi : i.endsInRefresh) (hpc : s.pc = .handshake n) :
    exec i s = handshakeStep s n := by
  obtain rfl | rfl | rfl := hi
  · simp only [exec, execRender, hpc]
  · simp only [exec, execRefresh, hpc]
  · simp only [exec, execClear, hpc]

/-- The polls of Refresh(), after its power-on, its refresh and its power-off command (R197). -/
theorem pollLoop_handshake (hi : i.endsInRefresh) {k : Nat} (hk : k = 3 ∨ k = 10 ∨ k = 17) :
    PollLoop i (.handshake k) (.handshake (k + 1)) (.handshake (k + 2)) := by
  refine ⟨fun u h => (exec_handshake hi h).trans ?_, fun u h => (exec_handshake hi h).trans ?_, ?_⟩
  · obtain rfl | rfl | rfl := hk <;> rfl
  · obtain rfl | rfl | rfl := hk <;> rfl
  · obtain rfl | rfl | rfl := hi <;> rfl

/-- A sample step by the busy count and the position after it. -/
theorem State.pollStep_eq (s : State) (wait exit : Pc) :
    s.pollStep wait exit =
      { s with
        env := s.env.drawPoll.2
        log := s.log ++ [.poll s.env.drawPoll.1]
        n := (s.pollStep wait exit).n
        pc := (s.pollStep wait exit).pc } := by
  obtain ⟨m, q, h, -⟩ := s.pollStep_cases wait exit
  rw [h]

/-- A busy sample is counted if a timeout is configured, and goes to the delay unless it is the N-th (R148). -/
theorem State.pollStep_busy {wait exit : Pc} (h : s.env.drawPoll.1 = !s.cfg.busyIdleLevel) :
    (∀ limit, s.cfg.busyTimeoutPolls = some limit → (s.pollStep wait exit).n = s.n + 1) ∧
    ((∀ limit, s.cfg.busyTimeoutPolls = some limit → (s.pollStep wait exit).n < limit) →
      (s.pollStep wait exit).pc = wait) ∧
    (∀ limit, s.cfg.busyTimeoutPolls = some limit → limit ≤ (s.pollStep wait exit).n →
      (s.pollStep wait exit).pc = .abort .busIOFailure busyTimeout) := by
  obtain ⟨m, q, he, hc⟩ := s.pollStep_cases wait exit
  rw [he]
  obtain ⟨hidle, -⟩ | ⟨-, ⟨hnone, rfl, rfl⟩ | ⟨limit, hl, rfl, ⟨hle, rfl⟩ | ⟨hlt, rfl⟩⟩⟩ := hc
  · simp [hidle] at h
  · simp [hnone]
  · simp [hl, hle]
  · simp [hl, hlt]

/-! ## What a step appends (R142, R147, R148) -/

/-- The events of BusWrite, Delay and SampleBusy. -/
def Event.isWriteDelayOrPoll : Event → Bool
  | .write _ _ _ | .delay _ | .poll _ => true
  | .line _ _ | .opened _ _ _ | .close | .issue _ | .done _ _ | .blockReset => false

/-- The durations of R5 and R6. -/
def delayDurations : List Nat := [tRstHi1, tRstLo, tSettle, tPoll, tSleep]

/-- What a step of the operation `i` from `s` to `t` does if it appends this event: what the rule says of a write, a
delay and a sample; nothing is said of the other events. -/
inductive RuleEvent (i : Instr) (s t : State) : Event → Prop
  | write (bytes : List Byte) (ok : Bool) (hat : i.writesAt s.pc) (hne : bytes ≠ [])
      (hfail : ok = false → i.aborts = true → t.pc = .abort .busIOFailure writeFailed) :
      RuleEvent i s t (.write s.dc bytes ok)
  | delay (ms : Nat) (hms : ms ∈ delayDurations) (htimer : t.timer = delayTicks s.cfg ms) :
      RuleEvent i s t (.delay ms)
  | sample (m : Nat) (wait again exit : Pc) (loop : PollLoop i wait again exit)
      (ht : t = State.pollStep { s with n := m } wait exit) : RuleEvent i s t (.poll s.env.drawPoll.1)
  | other (e : Event) (he : e.isWriteDelayOrPoll = false) : RuleEvent i s t e

/-- A step of the operation `i` from `s` to `t` appends one event, and does what the rule says of it. -/
def RuleStep (i : Instr) (s t : State) : Prop := ∃ ev, t.log = s.log ++ [ev] ∧ RuleEvent i s t ev

theorem RuleStep.other (ev : Event) (hlog : t.log = s.log ++ [ev]) (he : ev.isWriteDelayOrPoll = false) :
    RuleStep i s t :=
  ⟨ev, hlog, .other ev he⟩

@[simp] theorem RuleStep.line {l : Line} {b : Level} {pc : Pc} : RuleStep i s ((s.setLine l b).goto pc) :=
  .other (.line l b) (by simp) rfl

@[simp] theorem RuleStep.raise : RuleStep i s (s.raise e d) := .other (.done e d) rfl rfl

@[simp] theorem RuleStep.complete : RuleStep i s s.complete := .raise

theorem RuleStep.wait {ms : Nat} {pc : Pc} (hms : ms ∈ delayDurations) : RuleStep i s ((s.delay ms).goto pc) :=
  ⟨.delay ms, rfl, .delay ms hms rfl⟩

@[simp] theorem RuleStep.pollWait {again : Pc} : RuleStep i s (s.pollWait again) := .wait (by decide)

theorem RuleStep.send {bytes : List Byte} {next : Pc} (hlog : u.log = s.log) (hdc : u.dc = s.dc)
    (hat : i.writesAt s.pc) (hne : bytes ≠ []) : RuleStep i s (u.sendStep bytes next) :=
  ⟨_, by rw [State.sendStep_log, hlog, hdc], .write bytes _ hat hne fun hf _ => by simp [hf]⟩

/-- SLEEP does not raise at a failed write (R211). -/
theorem RuleStep.tryWrite {bytes : List Byte} {next : Pc} (hat : Instr.sleep.writesAt s.pc) (hne : bytes ≠ []) :
    RuleStep .sleep s (s.tryStep bytes next) :=
  ⟨_, s.tryStep_log bytes next, .write bytes _ hat hne nofun⟩

theorem RuleStep.poll {wait again exit : Pc} (loop : PollLoop i wait again exit) :
    RuleStep i s (s.pollStep wait exit) :=
  ⟨_, s.pollStep_log wait exit, .sample s.n wait again exit loop rfl⟩

theorem RuleStep.pollStart {wait again exit : Pc} (loop : PollLoop i wait again exit) :
    RuleStep i s (s.pollStart wait exit) :=
  ⟨_, s.pollStart_log wait exit, .sample 0 wait again exit loop rfl⟩

/-- The gate raises itself, or leaves the step to what follows it (R183). -/
theorem RuleStep.gated {go : State → State} (hlog : u.log = s.log) (h : RuleStep i s (go u)) :
    RuleStep i s (u.gated go) := by
  cases hb : u.busOpen with
  | true => rwa [State.gated_open hb]
  | false => exact .other (.done .busIOFailure notOpen) (by rw [State.gated_closed hb, State.raise_log, hlog]) rfl

/-- The gate before the first SetLine of an operation (R183). -/
theorem RuleStep.gatedLine {l : Line} {b : Level} {pc : Pc} (hlog : u.log = s.log) :
    RuleStep i s (u.gated fun v => (v.setLine l b).goto pc) :=
  .gated hlog (.other (.line l b) (by simp [hlog]) rfl)

theorem RuleStep.initCommand {x : InitEntry} (hat : Instr.init.writesAt s.pc) : RuleStep .init s (s.initCommand x) := by
  refine ⟨_, s.initCommand_log x, .write [x.cmd] _ hat nofun fun hf _ => ?_⟩
  obtain ⟨t, -, ⟨hok, -⟩ | ⟨hok, -⟩ | ⟨-, h⟩⟩ := s.initCommand_cases x
  · simp [hf] at hok
  · simp [hf] at hok
  · rw [h]

theorem RuleStep.initData {x : InitEntry} {b : Byte} (hat : Instr.init.writesAt s.pc) :
    RuleStep .init s (s.initData x b) := by
  refine ⟨_, s.initData_log x b, .write [b] _ hat nofun fun hf _ => ?_⟩
  obtain ⟨t, -, ⟨hok, -⟩ | ⟨hok, -⟩ | ⟨-, h⟩⟩ := s.initData_cases x b
  · simp [hf] at hok
  · simp [hf] at hok
  · rw [h]

/-! ## The operations -/

theorem handshakeStep_ruleStep (hi : i.endsInRefresh) {n : Nat} (hpc : s.pc = .handshake n) :
    Ensures (RuleStep i s) (handshakeStep s n) := by
  have hat (h : n = 1 ∨ n = 6 ∨ n = 8 ∨ n = 13 ∨ n = 15) : i.writesAt s.pc := by
    obtain rfl | rfl | rfl := hi <;> exact hpc ▸ h
  unfold handshakeStep
  split
  case h_2 | h_7 | h_9 | h_14 | h_16 => exact .send rfl rfl (hat (by decide)) nofun
  case h_3 | h_10 | h_17 => exact .pollStart (pollLoop_handshake hi (by decide))
  case h_5 | h_12 | h_19 => exact .poll (pollLoop_handshake hi (by decide))
  all_goals simp

theorem execIllegal_ruleStep (opc : BitVec 4) : Ensures (RuleStep (.illegal opc) s) (execIllegal opc s) := by
  unfold execIllegal
  split <;> simp

theorem execRaw_ruleStep {level : Level} (hat : s.pc = .rule 1 → i.writesAt s.pc) :
    Ensures (RuleStep i s) (execRaw level s) := by
  unfold execRaw
  split
  case h_1 => exact .gatedLine rfl
  case h_2 hpc => exact .send rfl rfl (hat hpc) nofun
  all_goals simp

theorem execWaitIdle_ruleStep : Ensures (RuleStep .waitIdle s) (execWaitIdle s) := by
  unfold execWaitIdle
  split
  case h_1 => exact .gated rfl (.pollStart pollLoop_waitIdle)
  case h_3 => exact .poll pollLoop_waitIdle
  all_goals simp

theorem frame_ne_nil (m : List Host.Cell) : frame m ≠ [] :=
  List.ne_nil_of_length_pos (length_frame m ▸ Nat.succ_pos _)

theorem fill_ne_nil (c : Byte) : fill c ≠ [] :=
  List.ne_nil_of_length_pos (length_fill c ▸ Nat.succ_pos _)

theorem execRender_ruleStep : Ensures (RuleStep .render s) (execRender s) := by
  unfold execRender
  split
  case h_1 =>
    split
    · cases hp : firstInvalidCell s.fb with
      | none =>
        rw [State.validated_ok (firstInvalidCell_none.mp hp)]
        exact .gatedLine rfl
      | some p =>
        rw [State.validated_bad hp]
        exact .other (.done .paletteMismatch 0#2) rfl rfl
    · simp
  case h_2 hpc => exact .send rfl rfl (hpc ▸ .inl rfl) nofun
  case h_4 hpc => exact .send rfl rfl (hpc ▸ .inr rfl) (frame_ne_nil s.fb)
  case h_5 hpc => exact handshakeStep_ruleStep (.inl rfl) hpc
  all_goals simp

theorem execRefresh_ruleStep : Ensures (RuleStep .refresh s) (execRefresh s) := by
  unfold execRefresh
  split
  case h_1 => exact .gatedLine rfl
  case h_2 hpc => exact handshakeStep_ruleStep (.inr (.inl rfl)) hpc
  all_goals simp

theorem execClear_ruleStep : Ensures (RuleStep .clear s) (execClear s) := by
  unfold execClear
  split
  case h_1 =>
    split
    · exact .gatedLine rfl
    · exact .other (.done .paletteMismatch 0#2) rfl rfl
  case h_2 hpc => exact .send rfl rfl (hpc ▸ .inl rfl) nofun
  case h_4 hpc => exact .send rfl rfl (hpc ▸ .inr rfl) (fill_ne_nil s.opnd)
  case h_5 hpc => exact handshakeStep_ruleStep (.inr (.inr rfl)) hpc
  all_goals simp

theorem execInit_ruleStep : Ensures (RuleStep .init s) (execInit s) := by
  unfold execInit
  split
  case h_1 =>
    split
    · simp
    · exact .other (.line .pwr true) rfl rfl
  case h_2 => exact .other _ s.initOpen_log rfl
  case h_4 | h_6 | h_8 => exact .wait (by decide)
  case h_9 => exact .pollStart pollLoop_init
  case h_11 => exact .poll pollLoop_init
  case h_12 => exact ⟨.delay tSettle, rfl, .delay tSettle (by decide) rfl⟩
  case h_14 hpc =>
    split
    · exact .initCommand (hpc ▸ .inl rfl)
    · trivial
  case h_16 hpc =>
    split
    · split
      · exact .initData (hpc ▸ .inr rfl)
      · trivial
    · trivial
  case h_17 => exact .other (.done s.err s.detail) rfl rfl
  all_goals simp

theorem execSleep_ruleStep : Ensures (RuleStep .sleep s) (execSleep s) := by
  unfold execSleep
  split
  case h_1 =>
    split
    · split
      · exact .other (.line .dc false) rfl rfl
      · exact .other (.line .rst false) rfl rfl
    · simp
  case h_2 hpc => exact .tryWrite (hpc ▸ .inl rfl) nofun
  case h_4 hpc => exact .tryWrite (hpc ▸ .inr rfl) nofun
  case h_5 => exact .wait (by decide)
  case h_6 => exact .other .close rfl rfl
  case h_10 =>
    rw [ensures_next, State.sleepEnd]
    split
    · exact .other (.done .busIOFailure writeFailed) rfl rfl
    · exact .other (.done s.err s.detail) rfl rfl
  all_goals simp

theorem exec_ensures_ruleStep (i : Instr) (s : State) : Ensures (RuleStep i s) (exec i s) := by
  cases i with
  | illegal opc => exact execIllegal_ruleStep opc
  | init => exact execInit_ruleStep
  | cmd => exact execRaw_ruleStep (level := false) fun hpc => by rw [hpc]; rfl
  | data => exact execRaw_ruleStep (level := true) fun hpc => by rw [hpc]; rfl
  | waitIdle => exact execWaitIdle_ruleStep
  | render => exact execRender_ruleStep
  | refresh => exact execRefresh_ruleStep
  | clear => exact execClear_ruleStep
  | sleep => exact execSleep_ruleStep

/-- A step of an operation does what the rule says of the event it appends. -/
theorem exec_ruleEvent {ev : Event} (h : exec i s = .next t) (hlog : t.log = s.log ++ [ev]) : RuleEvent i s t ev := by
  obtain ⟨ev', hlog', hev⟩ : RuleStep i s t := by simpa [h] using exec_ensures_ruleStep i s
  obtain rfl : ev' = ev := by simpa using hlog'.symm.trans hlog
  exact hev

theorem RuleEvent.of_write {dc : Level} {bytes : List Byte} {ok : Bool} (h : RuleEvent i s t (.write dc bytes ok)) :
    i.writesAt s.pc ∧ dc = s.dc ∧ bytes ≠ [] ∧
      (ok = false → i.aborts = true → t.pc = .abort .busIOFailure writeFailed) := by
  cases h with
  | write _ _ hat hne hfail => exact ⟨hat, rfl, hne, hfail⟩
  | other _ he => cases he

theorem RuleEvent.of_delay {ms : Nat} (h : RuleEvent i s t (.delay ms)) :
    ms ∈ delayDurations ∧ t.timer = delayTicks s.cfg ms := by
  cases h with
  | delay _ hms htimer => exact ⟨hms, htimer⟩
  | other _ he => cases he

theorem RuleEvent.of_poll {b : Level} (h : RuleEvent i s t (.poll b)) :
    b = s.env.drawPoll.1 ∧ ∃ m wait again exit, PollLoop i wait again exit ∧
      t = State.pollStep { s with n := m } wait exit := by
  cases h with
  | sample m wait again exit loop ht => exact ⟨rfl, m, wait, again, exit, loop, ht⟩
  | other _ he => cases he

end

/-! ## Writes (R142 to R145, R150) -/

/-- Settles O58: the positions at which an operation writes are among those with an open bus. -/
theorem writesGoToAnOpenBus : Obligations.WritesGoToAnOpenBus := by
  intro s t hi ha hx dc bytes ok hlog
  obtain ⟨hat, hdc, hne, -⟩ := (exec_ruleEvent hx hlog).of_write
  exact ⟨busOpen_of_writesAt (hi.position ha) hat, hdc, hne⟩

/-- Settles O45: a failed write leaves the sequencer at the raise of WRITE_FAILED. -/
theorem aFailedWriteEndsTheOperation : Obligations.AFailedWriteEndsTheOperation := by
  intro s t dc bytes _ hs hx hlog
  obtain ⟨hat, -, -, hfail⟩ := (exec_ruleEvent hx hlog).of_write
  have haborts := Instr.aborts_of_writesAt hat hs
  rw [exec_abort haborts (hfail rfl haborts), State.raise_eq, hlog, List.append_assoc]
  rfl

/-! ## Delays (R147) -/

/-- The timer counts the least number of ticks that lasts long enough (R147). -/
theorem delayTicks_least (c : Config) (ms : Nat) :
    ms * c.tickHz ≤ delayTicks c ms * 1000 ∧ ∀ k, ms * c.tickHz ≤ k * 1000 → delayTicks c ms ≤ k := by
  unfold delayTicks
  generalize ms * c.tickHz = x
  exact ⟨by omega, fun k h => by omega⟩

/-- Settles O59: the delays of the rules are those of R5 and R6, and each sets the timer to its ticks. -/
theorem delaysLastAtLeastTheirMinimum : Obligations.DelaysLastAtLeastTheirMinimum := by
  intro i s t ms hx hlog
  obtain ⟨hms, htimer⟩ := (exec_ruleEvent hx hlog).of_delay
  exact ⟨hms, htimer ▸ delayTicks_least s.cfg ms⟩

/-! ## Busy samples (R148, R228) -/

/-- Settles O32: the sample belongs to a poll loop of the operation, and the busy count says where it goes. -/
theorem aBusySampleIsFollowedByADelayOrTheTimeout : Obligations.ABusySampleIsFollowedByADelayOrTheTimeout := by
  intro s t _ hx hlog
  obtain ⟨hbusy, m, wait, again, exit, loop, ht⟩ := (exec_ruleEvent hx hlog).of_poll
  obtain ⟨-, hwait, hlate⟩ := State.pollStep_busy (s := { s with n := m }) (wait := wait) (exit := exit) hbusy.symm
  have hcfg : t.cfg = s.cfg := by rw [ht, State.pollStep_cfg]
  rw [← ht] at hwait hlate
  refine ⟨fun limit hl hle => exec_abort loop.aborts (hlate limit hl hle), fun hlt => ?_⟩
  refine ⟨_, _, loop.delays t (hwait hlt), t.pollWait_log again, loop.samples _ (t.pollWait_pc again),
    State.pollStep_log _ wait exit, fun hsome hne => ?_⟩
  obtain ⟨limit, hl⟩ := Option.ne_none_iff_exists'.mp hsome
  have hbusy' : (t.pollWait again).env.drawPoll.1 = !(t.pollWait again).cfg.busyIdleLevel := by
    simpa [hcfg, Bool.eq_not] using hne
  exact (State.pollStep_busy hbusy').1 limit (by simpa [hcfg] using hl)

end Sys2Proof.Machine
end

section
/-! PROOFS. A PollIdle as a whole (41_bus_primitives.md R148): any number of busy samples below the timeout, and the
timeout. -/

namespace Sys2Proof.Machine

section
variable {i : Instr} {s t : State} {wait again exit : Pc}

theorem opRun_of_exec (h : exec i s = .next t) (k : Nat) : opRun i (k + 1) s = opRun i k t := by
  simp only [opRun, h]

theorem opRun_congr (h : exec i s = exec i t) (k : Nat) : opRun i (k + 1) s = opRun i (k + 1) t := by
  simp only [opRun, h]

theorem Env.pollsGive_cons {b : Level} {bs : List Level} {e : Env} :
    e.pollsGive (b :: bs) = true ↔ e.drawPoll.1 = b ∧ e.drawPoll.2.pollsGive bs = true := by
  simp [Env.pollsGive]

theorem busyTrace_succ (c : Config) (r : Nat) :
    busyTrace c (r + 1) = [.poll (!c.busyIdleLevel), .delay tPoll] ++ busyTrace c r := rfl

/-- A busy sample below the timeout and its delay bring the sequencer back to the sample (R148). -/
theorem PollLoop.busyRound (loop : PollLoop i wait again exit) (hpc : s.pc = again)
    (hbusy : s.env.drawPoll.1 = !s.cfg.busyIdleLevel)
    (hlt : ∀ limit, s.cfg.busyTimeoutPolls = some limit → s.n + 1 < limit) :
    ∃ n, (∀ limit, s.cfg.busyTimeoutPolls = some limit → n = s.n + 1) ∧
      ∀ k, opRun i (2 + k) s = opRun i k
        { s with
          env := s.env.drawPoll.2
          n := n
          timer := delayTicks s.cfg tPoll
          log := s.log ++ [.poll (!s.cfg.busyIdleLevel), .delay tPoll] } := by
  obtain ⟨hn, hwait, -⟩ := State.pollStep_busy (wait := wait) (exit := exit) hbusy
  have hpc' := hwait fun limit hl => (hn limit hl).trans_lt (hlt limit hl)
  refine ⟨_, hn, fun k => ?_⟩
  rw [show 2 + k = k + 1 + 1 by omega, opRun_of_exec (loop.samples s hpc), opRun_of_exec (loop.delays _ hpc')]
  congr 1
  rw [State.pollStep_eq]
  simp [State.pollWait, State.delay, State.emit, State.goto, hbusy, hpc]

/-- Any number of busy samples below the timeout, with their delays: the sequencer stands at the sample again. -/
theorem PollLoop.busyRounds (loop : PollLoop i wait again exit) (r : Nat) {rest : List Level} (hpc : s.pc = again)
    (hpolls : s.env.pollsGive (List.replicate r (!s.cfg.busyIdleLevel) ++ rest) = true)
    (hlt : ∀ limit, s.cfg.busyTimeoutPolls = some limit → s.n + r < limit) :
    ∃ env n timer, env.pollsGive rest = true ∧ (∀ limit, s.cfg.busyTimeoutPolls = some limit → n = s.n + r) ∧
      ∀ k, opRun i (2 * r + k) s =
        opRun i k { s with env := env, n := n, timer := timer, log := s.log ++ busyTrace s.cfg r } := by
  induction r generalizing s with
  | zero => exact ⟨s.env, s.n, s.timer, hpolls, fun _ _ => rfl, fun k => by simp [busyTrace]⟩
  | succ r ih =>
    rw [List.replicate_succ, List.cons_append, Env.pollsGive_cons] at hpolls
    obtain ⟨hbusy, hpolls⟩ := hpolls
    obtain ⟨n₁, hn₁, hround⟩ := loop.busyRound hpc hbusy fun limit hl => by have := hlt limit hl; omega
    obtain ⟨env, n, timer, hrest, hn, hrun⟩ := ih (s := { s with
        env := s.env.drawPoll.2
        n := n₁
        timer := delayTicks s.cfg tPoll
        log := s.log ++ [.poll (!s.cfg.busyIdleLevel), .delay tPoll] }) hpc hpolls fun limit hl => by
      have := hlt limit hl
      have := hn₁ limit hl
      dsimp only
      omega
    refine ⟨env, n, timer, hrest, fun limit hl => ?_, fun k => ?_⟩
    · have := hn₁ limit hl
      have := hn limit hl
      dsimp only at this
      omega
    · rw [show 2 * (r + 1) + k = 2 + (2 * r + k) by omega, hround, hrun, busyTrace_succ, List.append_assoc]

/-- The busy sample that reaches the timeout, and the raise (R148, R228). -/
theorem PollLoop.timeout (loop : PollLoop i wait again exit) (hpc : s.pc = again)
    (hbusy : s.env.drawPoll.1 = !s.cfg.busyIdleLevel) {limit : Nat} (hl : s.cfg.busyTimeoutPolls = some limit)
    (hle : limit ≤ s.n + 1) :
    opRun i 2 s = .next
      { s with
        err := .busIOFailure
        detail := busyTimeout
        active := false
        pc := .abort .busIOFailure busyTimeout
        n := s.n + 1
        env := s.env.drawPoll.2
        log := s.log ++ [.poll (!s.cfg.busyIdleLevel), .done .busIOFailure busyTimeout] } := by
  obtain ⟨hn, -, hlate⟩ := State.pollStep_busy (wait := wait) (exit := exit) hbusy
  have hpc' := hlate limit hl (hle.trans (hn limit hl).ge)
  rw [opRun_of_exec (loop.samples s hpc), opRun_of_exec (exec_abort loop.aborts hpc'), opRun, State.raise_eq,
    State.pollStep_eq, hn limit hl, hpc', hbusy, List.append_assoc]
  rfl

/-! ## WAIT_IDLE (R182) -/

/-- WAIT_IDLE's first step, its gate open, is a sample with the count at 0. -/
theorem execWaitIdle_start (hpc : s.pc = .rule 0) (hb : s.busOpen = true) :
    exec .waitIdle s = exec .waitIdle { s with n := 0, pc := .rule 2 } := by
  simp only [exec, execWaitIdle, hpc, State.gated_open hb]
  rfl

/-- WAIT_IDLE after `r` busy samples below the timeout, about to sample again. -/
theorem waitIdle_busyRounds (hpc : s.pc = .rule 0) (hb : s.busOpen = true) (r : Nat) {rest : List Level}
    (hpolls : s.env.pollsGive (List.replicate r (!s.cfg.busyIdleLevel) ++ rest) = true)
    (hlt : ∀ limit, s.cfg.busyTimeoutPolls = some limit → r < limit) :
    ∃ env n timer, env.pollsGive rest = true ∧ (∀ limit, s.cfg.busyTimeoutPolls = some limit → n = r) ∧
      ∀ k, opRun .waitIdle (2 * r + (k + 1)) s = opRun .waitIdle (k + 1)
        { s with pc := .rule 2, env := env, n := n, timer := timer, log := s.log ++ busyTrace s.cfg r } := by
  obtain ⟨env, n, timer, hrest, hn, hrun⟩ :=
    pollLoop_waitIdle.busyRounds (s := { s with n := 0, pc := .rule 2 }) r rfl hpolls (by simpa using hlt)
  refine ⟨env, n, timer, hrest, by simpa using hn, fun k => ?_⟩
  rw [← Nat.add_assoc, opRun_congr (execWaitIdle_start hpc hb), Nat.add_assoc, hrun]

end

/-- Settles O24: N - 1 busy samples with their delays, and the one that reaches the timeout. -/
theorem waitIdleTimesOutAtTheNthSample : Obligations.WaitIdleTimesOutAtTheNthSample := by
  intro s limit hpc hb hl hpos hpolls
  obtain ⟨r, rfl⟩ := Nat.exists_eq_add_of_le' hpos
  rw [List.replicate_succ'] at hpolls
  obtain ⟨env, n, timer, hlast, hn, hrun⟩ := waitIdle_busyRounds hpc hb r hpolls fun limit h => by
    rw [hl] at h
    cases h
    omega
  obtain ⟨hbusy, -⟩ := Env.pollsGive_cons.mp hlast
  refine ⟨_, (hrun 1).trans (pollLoop_waitIdle.timeout rfl hbusy hl (hn _ hl ▸ le_rfl)), rfl, rfl, rfl, ?_, rfl, hb⟩
  simp [busyTimeout]

end Sys2Proof.Machine
end

section
/-! PROOFS. INIT up to its poll (42_initialize.md R160 to R163), and how it ends in an error (R167). -/

namespace Sys2Proof.Machine

section
variable {i : Instr} {s t : State}

/-- A run of `m + k` steps goes on from the state that its first `m` steps reach. -/
theorem opRun_add {m : Nat} (h : opRun i m s = .next t) (k : Nat) : opRun i (m + k) s = opRun i k t := by
  induction m generalizing s with
  | zero =>
    obtain rfl := Host.Outcome.next.inj h
    rw [Nat.zero_add]
  | succ m ih =>
    rw [Nat.succ_add]
    simp only [opRun] at h ⊢
    cases hx : exec i s with
    | next u =>
      rw [hx] at h
      exact ih h
    | fault | refused =>
      rw [hx] at h
      cases h

/-- Out of a session INIT enters POWERED_UP and sets PWR first (R160, R161). -/
theorem execInit_powersUp (hpc : s.pc = .rule 0) (hf : s.fsm = .uninit ∨ s.fsm = .asleep) :
    exec .init s = .next
      { s with fsm := .poweredUp, pwr := true, pc := .rule 1, log := s.log ++ [.line .pwr true] } := by
  have hl : s.sessionLive = false := by obtain hf | hf := hf <;> simp [State.sessionLive, hf]
  simp only [exec, execInit, hpc, hl]
  rfl

/-- The bus open comes next (R162). -/
theorem execInit_opens (hpc : s.pc = .rule 1) : exec .init s = .next s.initOpen := by
  simp only [exec, execInit, hpc]

/-- How a step of INIT can end it: the refusal in a live session, the completion, or the raise that a failed primitive
reached (R160, R167, R168). -/
theorem execInit_ends (s : State) :
    Ensures (fun t => t.active = s.active ∨ t = s.raise .sequenceError 0#2 ∨ t = State.complete { s with fsm := .idle } ∨
      ∃ e d, s.pc = .abort e d ∧ t = s.raise e d) (execInit s) := by
  unfold execInit
  split
  case h_1 =>
    split
    · exact .inr (.inl rfl)
    · exact .inl rfl
  case h_14 => split <;> simp
  case h_16 =>
    split
    · split <;> simp
    · simp
  case h_17 => exact .inr (.inr (.inl rfl))
  case h_18 hpc => exact .inr (.inr (.inr ⟨_, _, hpc, rfl⟩))
  all_goals simp

end

/-- Settles O27: the first step, the open by its answer, and the raise that a failed open leads to. -/
theorem initPowersUpAndStopsAtAFailedOpen : Obligations.InitPowersUpAndStopsAtAFailedOpen := by
  intro s hpc hf
  refine ⟨execInit_powersUp hpc hf, _, execInit_opens rfl, ?_, fun hok => ?_, fun hfail => ?_⟩
  · simp [State.initOpen_eq]
  · simp [State.initOpen_eq, hok]
  · rw [exec_abort (e := .busIOFailure) (d := openFailed) rfl (by simp [State.initOpen_eq, hfail]), State.raise_eq]
    simp [State.initOpen_eq, hfail, openFailed]

/-- Settles O28: the six steps of the pulse, one after the other. -/
theorem initDrivesTheResetPulse : Obligations.InitDrivesTheResetPulse := by
  intro s hpc
  simp only [opRun, exec, execInit, hpc]
  simp [State.setLine, State.delay, State.emit, State.goto, tRstHi1, tRstLo, tRstHi2]

/-- Settles O31: the ways INIT ends, and what its positions say of the lines and the bus at a raise. -/
theorem initErrorsLeaveTheSessionLive : Obligations.InitErrorsLeaveTheSessionLive := by
  intro s t hi ha hop hx hend herr
  have hcases := execInit_ends s
  rw [show execInit s = .next t from hx, ensures_next] at hcases
  obtain hsame | rfl | rfl | ⟨e, d, hpc, rfl⟩ := hcases
  · simp [hsame, ha] at hend
  · exact .inl ⟨rfl, rfl, rfl, rfl, rfl, rfl⟩
  · exact absurd (hi.flags.clearWhileActive ha).1 herr
  · have hpos := (positionOk_init hop).mp (hi.position ha)
    rw [initOk, hpc] at hpos
    obtain ⟨he, hf, hpwr, ⟨hd, hrst, hdc, hb⟩ | ⟨hd, hrst, hdc, hb⟩ | ⟨hd, hrst, hb⟩⟩ := hpos
    · exact .inr ⟨he, hf, hpwr, .inl ⟨hd, hrst, hdc, hb⟩⟩
    · exact .inr ⟨he, hf, hpwr, .inr (.inl ⟨hd, hrst, hdc, hb⟩)⟩
    · exact .inr ⟨he, hf, hpwr, .inr (.inr ⟨hd, hrst, rfl, hb⟩)⟩

end Sys2Proof.Machine
end

section
/-! PROOFS. INIT's register table (42_initialize.md R165, R166): what is left of it at each position, and byte by byte how
it is sent; a failed byte ends INIT (R167), and with none INIT completes (R168). -/

namespace Sys2Proof.Machine

section
variable {s : State} {e : InitEntry} {level : Level} {b : Byte} {left : List (Level × Byte)}

/-! ## What is left of the table -/

/-- The bytes of the table from entry `i` on. -/
def bytesFrom (c : Config) (i : Nat) : List (Level × Byte) := tableBytes (c.initTable.drop i)

theorem configOk_tableLength {c : Config} (h : configOk c = true) : c.initTable.length = initTableLen := by
  simp only [configOk, Bool.and_eq_true, beq_iff_eq] at h
  obtain ⟨⟨⟨⟨⟨⟨-, hlen⟩, -⟩, -⟩, -⟩, -⟩, -⟩ := h
  exact hlen

theorem bytesFrom_of_entry {c : Config} {i : Nat} (he : c.initTable[i]? = some e) :
    bytesFrom c i = (false, e.cmd) :: (e.data.map (fun b => (true, b)) ++ bytesFrom c (i + 1)) := by
  obtain ⟨hi, rfl⟩ := List.getElem?_eq_some_iff.mp he
  rw [bytesFrom, List.drop_eq_getElem_cons hi]
  rfl

theorem bytesFrom_end {c : Config} (hc : configOk c = true) {i : Nat} (hi : initTableLen ≤ i) : bytesFrom c i = [] := by
  rw [bytesFrom, List.drop_eq_nil_of_le (configOk_tableLength hc ▸ hi)]
  rfl

/-- The data bytes of an entry from index `j` on, then the entries after entry `i`. -/
def dataFrom (c : Config) (i : Nat) (e : InitEntry) (j : Nat) : List (Level × Byte) :=
  (e.data.drop j).map (fun b => (true, b)) ++ bytesFrom c (i + 1)

theorem dataFrom_of_byte {c : Config} {i j : Nat} (hb : e.data[j]? = some b) :
    dataFrom c i e j = (true, b) :: dataFrom c i e (j + 1) := by
  obtain ⟨hj, rfl⟩ := List.getElem?_eq_some_iff.mp hb
  rw [dataFrom, List.drop_eq_getElem_cons hj]
  rfl

theorem dataFrom_end {c : Config} {i j : Nat} (hj : e.data.length ≤ j) : dataFrom c i e j = bytesFrom c (i + 1) := by
  rw [dataFrom, List.drop_eq_nil_of_le hj]
  rfl

/-- INIT stands before the first of these bytes, and they are all that is left of its table: it is at an entry, at a data
byte of one, or past the last (R166). -/
inductive TableLeft (s : State) : List (Level × Byte) → Prop
  | entry (hpc : s.pc = .rule 12) (hi : s.i < initTableLen) : TableLeft s (bytesFrom s.cfg s.i)
  | data (e : InitEntry) (hpc : s.pc = .rule 14) (he : s.cfg.initTable[s.i]? = some e) (hj : s.j < e.data.length) :
      TableLeft s (dataFrom s.cfg s.i e s.j)
  | sent (hpc : s.pc = .rule 16) : TableLeft s []

/-- After the last byte of an entry the entries after it are left. -/
theorem TableLeft.nextEntry (hc : configOk s.cfg = true) : TableLeft s.initNextEntry (bytesFrom s.cfg (s.i + 1)) := by
  obtain ⟨hi, h⟩ | ⟨hi, h⟩ := s.initNextEntry_cases <;> rw [h]
  · exact .entry (s := { s with i := s.i + 1, pc := .rule 12 }) rfl hi
  · rw [bytesFrom_end hc hi]
    exact .sent rfl

/-! ## One byte -/

/-- INIT has written the byte `b` from `s` on, and stands at `t`: with `left` of the table to send, or at the raise. -/
structure ByteWritten (s : State) (b : Byte) (left : List (Level × Byte)) (t : State) : Prop where
  frame : ∃ pc i j, t = { s.perform (.busWrite [b]) with pc := pc, i := i, j := j }
  goesOn : (s.env.drawWrite [b]).1 = true → TableLeft t left
  failed : (s.env.drawWrite [b]).1 = false → t.pc = .abort .busIOFailure writeFailed

theorem State.initNextEntry_frame (s : State) : ∃ pc i j, s.initNextEntry = { s with pc := pc, i := i, j := j } := by
  obtain ⟨-, h⟩ | ⟨-, h⟩ := s.initNextEntry_cases <;> exact ⟨_, _, _, h⟩

theorem ByteWritten.of_nextEntry (hc : configOk s.cfg = true) (hok : (s.env.drawWrite [b]).1 = true) :
    ByteWritten s b (bytesFrom s.cfg (s.i + 1)) (s.perform (.busWrite [b])).initNextEntry :=
  ⟨State.initNextEntry_frame _, fun _ => .nextEntry (s := s.perform (.busWrite [b])) hc, fun h => by simp [hok] at h⟩

theorem ByteWritten.of_dataByte {j : Nat} (he : s.cfg.initTable[s.i]? = some e) (hj : j < e.data.length)
    (hok : (s.env.drawWrite [b]).1 = true) :
    ByteWritten s b (dataFrom s.cfg s.i e j) { s.perform (.busWrite [b]) with j := j, pc := .rule 14 } :=
  ⟨⟨_, _, _, rfl⟩, fun _ => .data (s := { s.perform (.busWrite [b]) with j := j, pc := .rule 14 }) e rfl he hj,
    fun h => by simp [hok] at h⟩

theorem ByteWritten.of_failure (hfail : (s.env.drawWrite [b]).1 = false) :
    ByteWritten s b left { s.perform (.busWrite [b]) with pc := .abort .busIOFailure writeFailed } :=
  ⟨⟨_, _, _, rfl⟩, fun h => by simp [hfail] at h, fun _ => rfl⟩

/-- The command write of an entry (R166). -/
theorem State.initCommand_writes (hc : configOk s.cfg = true) (he : s.cfg.initTable[s.i]? = some e) :
    ByteWritten s e.cmd (dataFrom s.cfg s.i e 0) (s.initCommand e) := by
  obtain ⟨t, rfl, ⟨hok, hnil, h⟩ | ⟨hok, hne, h⟩ | ⟨hfail, h⟩⟩ := s.initCommand_cases e <;> rw [h]
  · rw [dataFrom_end (by simp [hnil])]
    exact .of_nextEntry hc hok
  · exact .of_dataByte he (List.length_pos_iff.mpr hne) hok
  · exact .of_failure hfail

/-- The write of a data byte of an entry (R166). -/
theorem State.initData_writes (hc : configOk s.cfg = true) (he : s.cfg.initTable[s.i]? = some e) (b : Byte) :
    ByteWritten s b (dataFrom s.cfg s.i e (s.j + 1)) (s.initData e b) := by
  obtain ⟨t, rfl, ⟨hok, hlt, h⟩ | ⟨hok, hle, h⟩ | ⟨hfail, h⟩⟩ := s.initData_cases e b <;> rw [h]
  · exact .of_dataByte he hlt hok
  · rw [dataFrom_end hle]
    exact .of_nextEntry hc hok
  · exact .of_failure hfail

/-- The next byte of the table is sent in two steps, its DC level and its write (R143, R144, R166). -/
theorem TableLeft.sendsByte (h : TableLeft s ((level, b) :: left)) (hc : configOk s.cfg = true) :
    ∃ t, opRun .init 2 s = .next t ∧ ByteWritten (s.setLine .dc level) b left t := by
  generalize hall : (level, b) :: left = all at h
  cases h with
  | entry hpc hi =>
    obtain ⟨e, he⟩ := configOk_entry hc hi
    obtain ⟨⟨rfl, rfl⟩, rfl⟩ : (level = false ∧ b = e.cmd) ∧ left = dataFrom s.cfg s.i e 0 := by
      simpa [bytesFrom_of_entry he, dataFrom] using hall
    have hw := State.initCommand_writes (s := (s.setLine .dc false).goto (.rule 13)) hc he
    refine ⟨_, ?_, hw.frame, hw.goesOn, hw.failed⟩
    simp only [opRun, exec, execInit, hpc]
    simp [he]
  | data e hpc he hj =>
    have hb := List.getElem?_eq_getElem hj
    obtain ⟨⟨rfl, rfl⟩, rfl⟩ : (level = true ∧ b = e.data[s.j]) ∧ left = dataFrom s.cfg s.i e (s.j + 1) := by
      simpa [dataFrom_of_byte hb] using hall
    have hw := State.initData_writes (s := (s.setLine .dc true).goto (.rule 15)) hc he e.data[s.j]
    refine ⟨_, ?_, hw.frame, hw.goesOn, hw.failed⟩
    simp only [opRun, exec, execInit, hpc]
    simp [he, hb]
  | sent => cases hall

/-! ## Many bytes -/

/-- If the next bytes of the table are all written, INIT sends exactly them, and stands before the bytes after them. -/
theorem TableLeft.sendsBytes (sent : List (Level × Byte)) (h : TableLeft s (sent ++ left)) (hc : configOk s.cfg = true)
    (hok : s.env.writesSucceed (sent.map fun x => [x.2]) = true) :
    ∃ t, opRun .init (2 * sent.length) s = .next t ∧ TableLeft t left ∧ ∃ dc pc i j,
      t = { s with
        dc := dc
        env := s.env.afterWrites (sent.map fun x => [x.2])
        log := s.log ++ byteTrace sent
        pc := pc
        i := i
        j := j } := by
  induction sent generalizing s with
  | nil => exact ⟨s, rfl, h, s.dc, s.pc, s.i, s.j, by simp [byteTrace, Env.afterWrites]⟩
  | cons x sent ih =>
    obtain ⟨level, b⟩ := x
    obtain ⟨hb, hrest⟩ : (s.env.drawWrite [b]).1 = true ∧
        (s.env.drawWrite [b]).2.writesSucceed (sent.map fun x => [x.2]) = true := by
      simpa [Env.writesSucceed] using hok
    obtain ⟨u, hu, ⟨pc, i, j, rfl⟩, hgo, -⟩ := h.sendsByte hc
    obtain ⟨t, ht, hleft, dc, pc', i', j', rfl⟩ := ih (hgo hb) hc hrest
    refine ⟨_, ?_, hleft, dc, pc', i', j', ?_⟩
    · rw [List.length_cons, Nat.mul_succ, Nat.add_comm, opRun_add hu, ht]
    · simp [State.perform, State.busWrite, State.emit, State.setLine, Env.afterWrites, byteTrace, sentEvents, hb]

/-- A byte of the table whose write fails ends INIT (R150, R167). -/
theorem TableLeft.failsAtByte (h : TableLeft s ((level, b) :: left)) (hc : configOk s.cfg = true)
    (hfail : (s.env.drawWrite [b]).1 = false) :
    ∃ pc i j, opRun .init 3 s = .next
      { s with
        dc := level
        err := .busIOFailure
        detail := writeFailed
        active := false
        env := (s.env.drawWrite [b]).2
        log := s.log ++ [.line .dc level, .write level [b] false, .done .busIOFailure writeFailed]
        pc := pc
        i := i
        j := j } := by
  obtain ⟨u, hu, ⟨pc, i, j, rfl⟩, -, hraise⟩ := h.sendsByte hc
  refine ⟨pc, i, j, (opRun_add hu 1).trans ((opRun_of_exec (exec_abort rfl (hraise hfail)) 0).trans ?_)⟩
  simp [opRun, State.raise_eq, State.perform, State.busWrite, State.emit, State.setLine, hfail]

end

/-! ## From the settle delay on -/

section
variable {s : State}

/-- The settle delay brings INIT to its table, all of it left (R165). -/
theorem execInit_settles (hpc : s.pc = .rule 11) :
    exec .init s = .next { s.delay tSettle with i := 0, pc := .rule 12 } := by
  simp only [exec, execInit, hpc]
  rfl

theorem TableLeft.start (hpc : s.pc = .rule 12) (hi : s.i = 0) : TableLeft s (tableBytes s.cfg.initTable) := by
  have h := TableLeft.entry hpc (hi ▸ Nat.succ_pos _)
  rwa [hi] at h

/-- From the settle delay on INIT sends the first bytes of the table, if their writes succeed, and stands before the
rest (R165, R166). -/
theorem initSends (hpc : s.pc = .rule 11) (hc : configOk s.cfg = true) (sent left : List (Level × Byte))
    (hall : tableBytes s.cfg.initTable = sent ++ left)
    (hok : s.env.writesSucceed (sent.map fun x => [x.2]) = true) :
    ∃ t, opRun .init (1 + 2 * sent.length) s = .next t ∧ TableLeft t left ∧ ∃ dc pc i j,
      t = { s with
        dc := dc
        env := s.env.afterWrites (sent.map fun x => [x.2])
        timer := delayTicks s.cfg tSettle
        log := s.log ++ [.delay tSettle] ++ byteTrace sent
        pc := pc
        i := i
        j := j } := by
  have hstart : TableLeft { s.delay tSettle with i := 0, pc := .rule 12 } (sent ++ left) := hall ▸ .start rfl rfl
  obtain ⟨t, ht, hleft, hframe⟩ := hstart.sendsBytes sent hc hok
  exact ⟨t, by rw [Nat.add_comm, opRun_of_exec (execInit_settles hpc), ht], hleft, hframe⟩

/-- With none of the table left INIT is at its completion (R168). -/
theorem TableLeft.pc_of_nil (h : TableLeft s []) (hc : configOk s.cfg = true) : s.pc = .rule 16 := by
  generalize hnil : [] = bytes at h
  cases h with
  | entry hpc hi =>
    obtain ⟨e, he⟩ := configOk_entry hc hi
    simp [bytesFrom_of_entry he] at hnil
  | data e hpc he hj => simp [dataFrom_of_byte (List.getElem?_eq_getElem hj)] at hnil
  | sent hpc => exact hpc

/-- INIT's last step (R168). -/
theorem execInit_completes (hpc : s.pc = .rule 16) :
    exec .init s = .next { s with fsm := .idle, active := false, log := s.log ++ [.done s.err s.detail] } := by
  simp only [exec, execInit, hpc]
  rfl

end

/-- Settles O30: the bytes before the failing one, and the byte that fails. -/
theorem initStopsAtTheFailingByte : Obligations.InitStopsAtTheFailingByte := by
  intro s q level b hpc hc hq hok hfail
  obtain ⟨hlt, hb⟩ := List.getElem?_eq_some_iff.mp hq
  have hall : tableBytes s.cfg.initTable = _ ++ (level, b) :: (tableBytes s.cfg.initTable).drop (q + 1) :=
    hb ▸ (List.take_append_drop q _).symm.trans (congrArg _ (List.drop_eq_getElem_cons hlt))
  obtain ⟨u, hu, hleft, dc, pc, i, j, rfl⟩ := initSends hpc hc _ _ hall hok
  obtain ⟨pc', i', j', hrun⟩ := hleft.failsAtByte hc hfail
  rw [List.length_take_of_le hlt.le] at hu
  rw [show 2 * q + 4 = 1 + 2 * q + 3 by omega]
  exact ⟨_, (opRun_add hu 3).trans hrun, by simp [writeFailed, tSettle]⟩

end Sys2Proof.Machine
end

section
/-! PROOFS. A whole INIT that succeeds (42_initialize.md R160 to R168): its poll returns (41_bus_primitives.md R148), and
every byte of its table is sent. -/

namespace Sys2Proof.Machine

/-! ## The panel's answers -/

/-- The panel's answers to writes are the same in both (R236). -/
def Env.SameWrites (e e' : Env) : Prop := e.writes = e'.writes ∧ e.nWrite = e'.nWrite

theorem Env.SameWrites.drawWrite {e e' : Env} (h : e.SameWrites e') (bytes : List Byte) :
    (e.drawWrite bytes).1 = (e'.drawWrite bytes).1 ∧ (e.drawWrite bytes).2.SameWrites (e'.drawWrite bytes).2 := by
  obtain ⟨hw, hn⟩ := h
  unfold Env.drawWrite
  rw [hw, hn]
  split
  all_goals exact ⟨rfl, rfl, rfl⟩

theorem Env.SameWrites.writesSucceed {e e' : Env} (h : e.SameWrites e') (writes : List (List Byte)) :
    e.writesSucceed writes = e'.writesSucceed writes := by
  induction writes generalizing e e' with
  | nil => rfl
  | cons bytes writes ih =>
    obtain ⟨hok, hsame⟩ := h.drawWrite bytes
    rw [Env.writesSucceed, Env.writesSucceed, hok, ih hsame]

theorem Env.pollsGive_congr {e e' : Env} (hp : e.polls = e'.polls) (hn : e.nPoll = e'.nPoll) (samples : List Level) :
    e.pollsGive samples = e'.pollsGive samples := by
  induction samples generalizing e e' with
  | nil => rfl
  | cons b samples ih =>
    obtain ⟨hb, hp', hn'⟩ : e.drawPoll.1 = e'.drawPoll.1 ∧ e.drawPoll.2.polls = e'.drawPoll.2.polls ∧
        e.drawPoll.2.nPoll = e'.drawPoll.2.nPoll := by
      unfold Env.drawPoll
      rw [hp, hn]
      split
      all_goals exact ⟨rfl, rfl, rfl⟩
    rw [Env.pollsGive, Env.pollsGive, hb, ih hp' hn']

/-! ## Up to the settle delay -/

theorem withinTimeout_iff {c : Config} {r : Nat} :
    withinTimeout c r = true ↔ ∀ limit, c.busyTimeoutPolls = some limit → r < limit := by
  unfold withinTimeout
  split <;> simp [*]

theorem pollSamples_succ (c : Config) (r : Nat) : pollSamples c (r + 1) = (!c.busyIdleLevel) :: pollSamples c r := rfl

theorem pollTrace_succ (c : Config) (r : Nat) :
    pollTrace c (r + 1) = [.poll (!c.busyIdleLevel), .delay tPoll] ++ pollTrace c r := rfl

section
variable {i : Instr} {s : State} {wait again exit : Pc}

/-- A PollIdle that sees `r` busy samples, fewer than a timeout, and then an idle one, returns (R148). -/
theorem PollLoop.returns (loop : PollLoop i wait again exit) (r : Nat) {rest : List Level} (hpc : s.pc = again)
    (hpolls : s.env.pollsGive (pollSamples s.cfg r ++ rest) = true)
    (hlt : ∀ limit, s.cfg.busyTimeoutPolls = some limit → s.n + r < limit) :
    ∃ env n timer, env.pollsGive rest = true ∧ env.SameWrites s.env ∧
      opRun i (2 * r + 1) s = .next
        { s with pc := exit, env := env, n := n, timer := timer, log := s.log ++ pollTrace s.cfg r } := by
  induction r generalizing s with
  | zero =>
    obtain ⟨hidle, hrest⟩ := Env.pollsGive_cons.mp hpolls
    refine ⟨_, s.n, s.timer, hrest, ⟨s.env.drawPoll_frame.1, s.env.drawPoll_frame.2.1⟩, ?_⟩
    rw [opRun_of_exec (loop.samples s hpc), State.pollStep_idle hidle]
    rfl
  | succ r ih =>
    rw [pollSamples_succ, List.cons_append, Env.pollsGive_cons] at hpolls
    obtain ⟨hbusy, hpolls⟩ := hpolls
    obtain ⟨n₁, hn₁, hround⟩ := loop.busyRound hpc hbusy fun limit hl => by have := hlt limit hl; omega
    obtain ⟨env, n, timer, hrest, ⟨hw, hn⟩, hrun⟩ := ih (s := { s with
        env := s.env.drawPoll.2
        n := n₁
        timer := delayTicks s.cfg tPoll
        log := s.log ++ [.poll (!s.cfg.busyIdleLevel), .delay tPoll] }) hpc hpolls fun limit hl => by
      have := hlt limit hl
      have := hn₁ limit hl
      dsimp only
      omega
    obtain ⟨hw', hn', -⟩ := s.env.drawPoll_frame
    refine ⟨env, n, timer, hrest, ⟨hw.trans hw', hn.trans hn'⟩, ?_⟩
    rw [show 2 * (r + 1) + 1 = 2 + (2 * r + 1) by omega, hround, hrun, pollTrace_succ, List.append_assoc]

/-- INIT's poll starts with a sample, the count at 0 (R164). -/
theorem execInit_polls (hpc : s.pc = .rule 8) : exec .init s = exec .init { s with n := 0, pc := .rule 10 } := by
  simp only [exec, execInit, hpc]
  rfl

/-- INIT's poll brings it to the settle delay (R164, R165). -/
theorem initPolls (hpc : s.pc = .rule 8) {r : Nat} (hpolls : s.env.pollsGive (pollSamples s.cfg r) = true)
    (hr : withinTimeout s.cfg r = true) :
    ∃ t, opRun .init (2 * r + 1) s = .next t ∧ t.env.SameWrites s.env ∧ ∃ env n timer,
      t = { s with pc := .rule 11, env := env, n := n, timer := timer, log := s.log ++ pollTrace s.cfg r } := by
  obtain ⟨env, n, timer, -, hsame, hrun⟩ := pollLoop_init.returns (s := { s with n := 0, pc := .rule 10 }) r
    (rest := []) rfl (by simpa using hpolls) (by simpa using withinTimeout_iff.mp hr)
  exact ⟨_, (opRun_congr (execInit_polls hpc) _).trans hrun, hsame, env, n, timer, rfl⟩

/-- The state after INIT's power-up, a successful open and the reset pulse (R161 to R163). -/
def State.afterPulse (s : State) : State :=
  { s with
    fsm := .poweredUp
    pwr := true
    rst := true
    busOpen := true
    pc := .rule 8
    env := s.env.drawOpen.2
    timer := delayTicks s.cfg tRstHi2
    log := s.log ++ [.line .pwr true, .opened s.cfg.busClockHz s.cfg.busMode true, .line .rst true, .delay tRstHi1,
      .line .rst false, .delay tRstLo, .line .rst true, .delay tRstHi2] }

theorem initReachesPoll (hpc : s.pc = .rule 0) (hf : s.fsm = .uninit ∨ s.fsm = .asleep)
    (hopen : s.env.drawOpen.1 = true) : opRun .init 8 s = .next s.afterPulse := by
  rw [opRun_of_exec (execInit_powersUp hpc hf), opRun_of_exec (execInit_opens rfl),
    initDrivesTheResetPulse _ (by simp [State.initOpen_eq, hopen])]
  simp [State.initOpen_eq, hopen, State.afterPulse, tRstHi1, tRstLo, tRstHi2]

/-- What an open's answer leaves of those to the samples and the writes (R236). -/
theorem State.afterPulse_answers (s : State) :
    s.afterPulse.env.SameWrites s.env ∧ ∀ samples, s.afterPulse.env.pollsGive samples = s.env.pollsGive samples := by
  obtain ⟨hp, hn, hw, hnw, -⟩ := s.env.drawOpen_frame
  exact ⟨⟨hw, hnw⟩, Env.pollsGive_congr hp hn⟩

end

/-! ## The whole of INIT -/

theorem minMs_append (log log' : List Event) : minMs (log ++ log') = minMs log + minMs log' := by
  simp [minMs]

theorem byteTrace_cons (x : Level × Byte) (bytes : List (Level × Byte)) :
    byteTrace (x :: bytes) = sentEvents x.1 [x.2] ++ byteTrace bytes := rfl

theorem minMs_byteTrace (bytes : List (Level × Byte)) : minMs (byteTrace bytes) = 0 := by
  induction bytes with
  | nil => rfl
  | cons x bytes ih =>
    rw [byteTrace_cons, minMs_append, ih]
    rfl

theorem minMs_pollTrace (c : Config) (r : Nat) : minMs (pollTrace c r) = 5 * r := by
  induction r with
  | zero => rfl
  | succ r ih =>
    rw [pollTrace_succ, minMs_append, ih, Nat.mul_succ, Nat.add_comm]
    rfl

/-- Settles O29: INIT up to its table, all the bytes of the table, and the completion. -/
theorem initSendsTheWholeTable : Obligations.InitSendsTheWholeTable := by
  intro s r hpc hf hc hopen hpolls hr hok
  refine ⟨⟨_, execInit_powersUp hpc hf, rfl, rfl⟩, ?_⟩
  obtain ⟨hopened, hsamples⟩ := s.afterPulse_answers
  obtain ⟨u, hpoll, hpolled, env, n, timer, hu⟩ := initPolls (s := s.afterPulse) rfl ((hsamples _).trans hpolls) hr
  have hcfg : u.cfg = s.cfg := by
    rw [hu]
    rfl
  obtain ⟨t, hsend, hleft, dc, pc, i, j, rfl⟩ := initSends (by rw [hu]) (hcfg ▸ hc) (tableBytes s.cfg.initTable) []
    (by simp [hcfg]) ((hpolled.writesSucceed _).trans ((hopened.writesSucceed _).trans hok))
  have hend := opRun_of_exec (execInit_completes (hleft.pc_of_nil (hcfg ▸ hc))) 0
  rw [show 11 + 2 * r + 2 * (tableBytes s.cfg.initTable).length =
    8 + (2 * r + 1 + (1 + 2 * (tableBytes s.cfg.initTable).length + 1)) by omega]
  refine ⟨_, (opRun_add (initReachesPoll hpc hf hopen) _).trans
    ((opRun_add hpoll _).trans ((opRun_add hsend 1).trans hend)), ?_⟩
  subst hu
  refine ⟨?_, rfl, rfl, rfl, rfl, rfl, rfl, rfl, ?_⟩
  · simp [State.afterPulse, tRstHi1, tRstLo, tRstHi2, tSettle]
  · simp only [State.afterPulse, minMs_append, minMs_pollTrace, minMs_byteTrace]
    simp [minMs, Event.minMs, tRstHi1, tRstLo, tRstHi2, tSettle]
    omega

end Sys2Proof.Machine
end

section
/-! PROOFS. The raw operations (43_raw_ops.md R180 to R182) and the bus gate of every gated operation (R183). -/

namespace Sys2Proof.Machine

section
variable {s : State} {level : Level}

/-! ## The closed bus (R183, R230) -/

theorem State.canvasMatches_iff : s.canvasMatches = true ↔ s.canvasW = 800#16 ∧ s.canvasH = 480#16 := by
  simp [State.canvasMatches]

theorem execRaw_closed (hpc : s.pc = .rule 0) (hb : s.busOpen = false) :
    execRaw level s = .next (State.raise { s with opnd := s.argVal } .busIOFailure notOpen) := by
  simp only [execRaw, hpc, hb, State.gated_closed]

theorem execWaitIdle_closed (hpc : s.pc = .rule 0) (hb : s.busOpen = false) :
    exec .waitIdle s = .next (s.raise .busIOFailure notOpen) := by
  simp only [exec, execWaitIdle, hpc, hb, State.gated_closed]

theorem execRefresh_closed (hpc : s.pc = .rule 0) (hb : s.busOpen = false) :
    exec .refresh s = .next (s.raise .busIOFailure notOpen) := by
  simp only [exec, execRefresh, hpc, hb, State.gated_closed]

/-- RENDER reaches its gate after the canvas and every cell passed (R190, R230). -/
theorem execRender_closed (hpc : s.pc = .rule 0) (hb : s.busOpen = false) (hc : s.canvasMatches = true)
    (hv : ∀ a, a < npix → valid (Memory.read s.fb a) = true) :
    exec .render s = .next (State.raise { s with p := npix - 1 } .busIOFailure notOpen) := by
  simp only [exec, execRender, hpc, hc, if_true, State.validated_ok hv, hb, State.gated_closed]

/-- CLEAR reaches its gate after its index passed (R199, R230). -/
theorem execClear_closed (hpc : s.pc = .rule 0) (hb : s.busOpen = false) (hv : valid s.argVal = true) :
    exec .clear s = .next (State.raise { s with opnd := s.argVal } .busIOFailure notOpen) := by
  simp only [exec, execClear, hpc, hv, if_true, hb, State.gated_closed]

end

/-- Settles O22: each gated operation raises at its gate, and has at most read its operand or its cells before it. -/
theorem closedBusStopsOperations : Obligations.ClosedBusStopsOperations := by
  intro i s hpc hb hi
  obtain ⟨opnd, p, h⟩ : ∃ opnd p,
      exec i s = .next (State.raise { s with opnd := opnd, p := p } .busIOFailure notOpen) := by
    obtain rfl | rfl | rfl | rfl | ⟨rfl, hw, hh, hcells⟩ | ⟨rfl, hv⟩ := hi
    · exact ⟨_, _, execRaw_closed (level := false) hpc hb⟩
    · exact ⟨_, _, execRaw_closed (level := true) hpc hb⟩
    · exact ⟨_, _, execWaitIdle_closed hpc hb⟩
    · exact ⟨_, _, execRefresh_closed hpc hb⟩
    · exact ⟨_, _, execRender_closed hpc hb (State.canvasMatches_iff.mpr ⟨hw, hh⟩)
        fun a ha => valid_iff.mpr (hcells a ha)⟩
    · exact ⟨_, _, execClear_closed hpc hb (valid_iff.mpr hv)⟩
  exact ⟨_, h, rfl, rfl, rfl, rfl, rfl, rfl, rfl, rfl, hb, rfl, rfl⟩

/-! ## WAIT_IDLE (R182) -/

theorem execWaitIdle_completes {s : State} (hpc : s.pc = .rule 3) : exec .waitIdle s = .next s.complete := by
  simp only [exec, execWaitIdle, hpc]

/-- Settles O23: the gate lets the poll start, the poll returns, and the operation completes. -/
theorem waitIdleReturnsAfterBusySamples : Obligations.WaitIdleReturnsAfterBusySamples := by
  intro s r hpc hb hpolls hr
  constructor
  · exact ⟨_, (execWaitIdle_start hpc hb).trans (pollLoop_waitIdle.samples _ rfl), State.pollStep_log _ _ _⟩
  · obtain ⟨env, n, timer, -, -, hrun⟩ := pollLoop_waitIdle.returns (s := { s with n := 0, pc := .rule 2 }) r
      (rest := []) rfl (by simpa using hpolls) (by simpa using withinTimeout_iff.mp hr)
    have hpoll := (opRun_congr (execWaitIdle_start hpc hb) (2 * r)).trans hrun
    refine ⟨_, (opRun_add hpoll 1).trans (opRun_of_exec (execWaitIdle_completes rfl) 0), rfl, rfl, rfl, ?_,
      rfl, rfl, rfl, rfl, hb⟩
    simp [pollTrace]

/-! ## CMD and DATA (R180, R181) -/

section
variable {s : State} {level : Level}

/-- CMD (`level` 0) or DATA (`level` 1) has set DC and read its byte. -/
def State.rawLine (s : State) (level : Level) : State :=
  { s with opnd := s.argVal, dc := level, pc := .rule 1, log := s.log ++ [.line .dc level] }

/-- CMD or DATA has written its byte, and goes to its end or to the raise by the panel's answer. -/
def State.rawWritten (s : State) (level : Level) : State :=
  { s.rawLine level with
    env := (s.env.drawWrite [s.argVal]).2
    pc := if (s.env.drawWrite [s.argVal]).1 then .rule 2 else .abort .busIOFailure writeFailed
    log := s.log ++ [.line .dc level, .write level [s.argVal] (s.env.drawWrite [s.argVal]).1] }

/-- CMD or DATA has completed with the ERR held, or raised WRITE_FAILED, by the panel's answer. -/
def State.rawEnded (s : State) (level : Level) : State :=
  if (s.env.drawWrite [s.argVal]).1 then
    { s.rawWritten level with
      active := false
      log := s.log ++ [.line .dc level, .write level [s.argVal] true, .done s.err s.detail] }
  else
    { s.rawWritten level with
      active := false
      err := .busIOFailure
      detail := writeFailed
      log := s.log ++ [.line .dc level, .write level [s.argVal] false, .done .busIOFailure writeFailed] }

theorem execRaw_setsDc (hpc : s.pc = .rule 0) (hb : s.busOpen = true) :
    execRaw level s = .next (s.rawLine level) := by
  simp [execRaw, hpc, State.gated_open, hb, State.setLine, State.emit, State.goto, State.rawLine]

theorem execRaw_writes : execRaw level (s.rawLine level) = .next (s.rawWritten level) := by
  simp [execRaw, State.rawLine, State.rawWritten, State.sendStep_eq]

theorem execRaw_ends : execRaw level (s.rawWritten level) = .next (s.rawEnded level) := by
  unfold State.rawEnded
  cases hok : (s.env.drawWrite [s.argVal]).1
  · simp [execRaw, State.raise_eq, State.rawWritten, hok]
  · simp [execRaw, State.complete, State.emit, State.rawWritten, State.rawLine, hok]

end

/-- Settles O20: CMD is the raw operation with DC low: the gate, the line, the write, the end. -/
theorem cmdSendsOneCommandByte : Obligations.CmdSendsOneCommandByte :=
  ⟨fun _ hpc hb => execRaw_closed hpc hb, fun _ hpc hb => ⟨execRaw_setsDc hpc hb, execRaw_writes, execRaw_ends⟩⟩

/-- Settles O21: DATA is the raw operation with DC high, step for step that of CMD. -/
theorem dataSendsOneDataByte : Obligations.DataSendsOneDataByte :=
  ⟨fun _ hpc hb => execRaw_closed hpc hb, fun _ hpc hb => ⟨execRaw_setsDc hpc hb, execRaw_writes, execRaw_ends⟩⟩

end Sys2Proof.Machine
end

section
/-! PROOFS. The rejections of RENDER and CLEAR, which come before their gate and before any panel event (44_frame_ops.md
R190, R191, R199; 60_exceptions.md R230). -/

namespace Sys2Proof.Machine

section
variable {s : State}

theorem execRender_dimensionMismatch (hpc : s.pc = .rule 0) (hc : s.canvasMatches = false) :
    exec .render s = .next (s.raise .dimensionMismatch 0#2) := by
  simp [exec, execRender, hpc, hc]

/-- RENDER's palette check reports the lowest invalid cell (R191). -/
theorem execRender_paletteMismatch (hpc : s.pc = .rule 0) (hc : s.canvasMatches = true) {p : Nat}
    (hp : firstInvalidCell s.fb = some p) :
    exec .render s = .next (State.raise { s with p := p, errinfo := BitVec.ofNat 19 p } .paletteMismatch 0#2) := by
  simp only [exec, execRender, hpc, hc, if_true, State.validated_bad hp]

theorem execClear_paletteMismatch (hpc : s.pc = .rule 0) (hv : valid s.argVal = false) :
    exec .clear s = .next (State.raise { s with opnd := s.argVal } .paletteMismatch 0#2) := by
  simp [exec, execClear, hpc, hv]

theorem valid_eq_false_iff {v : Byte} : valid v = false ↔ ¬ v ≤ 6#8 := by simp [valid]

/-- A cell index fits the 19 bits of ERRINFO.PIX (R28). -/
theorem toNat_pix {p : Nat} (hp : p < npix) : (BitVec.ofNat 19 p).toNat = p :=
  Nat.mod_eq_of_lt (hp.trans (by decide))

end

/-- Settles O33: the check of the canvas is RENDER's first, and its raise is the step that appends Done. -/
theorem renderRejectsOtherDimensions : Obligations.RenderRejectsOtherDimensions := by
  intro s hpc hdim
  have hc : s.canvasMatches = false := by
    rw [Bool.eq_false_iff, ne_eq, State.canvasMatches_iff]
    exact not_and_or.mpr hdim
  rw [execRender_dimensionMismatch hpc hc, State.raise_eq]

/-- Settles O34: the first invalid cell of the check is the lowest, and its index fits ERRINFO.PIX. -/
theorem renderRejectsTheLowestInvalidCell : Obligations.RenderRejectsTheLowestInvalidCell := by
  intro s p hpc hw hh hp hbad hlow
  have hfirst : firstInvalidCell s.fb = some p :=
    firstInvalidCell_some.mpr ⟨hp, valid_eq_false_iff.mpr hbad, fun q hq => valid_iff.mpr (hlow q hq)⟩
  exact ⟨_, execRender_paletteMismatch hpc (State.canvasMatches_iff.mpr ⟨hw, hh⟩) hfirst, rfl, toNat_pix hp⟩

/-- Settles O37: the check of the index is CLEAR's first, right after it has read its operand. -/
theorem clearRejectsAnInvalidIndex : Obligations.ClearRejectsAnInvalidIndex := by
  intro s hpc hv
  rw [execClear_paletteMismatch hpc (valid_eq_false_iff.mpr hv), State.raise_eq]

end Sys2Proof.Machine
end

section
/-! PROOFS. The successful runs of the frame operations (44_frame_ops.md R190 to R199): what a run has sent so far and which
answers of the panel it still expects, step by step through the frame and through Refresh(). -/

namespace Sys2Proof.Machine

/-! ## What a run has sent, and what it expects -/

/-- What a frame operation moves besides DC, its position and the log: the panel's answers, the pixel-pair index, the busy
count and the delay timer. -/
structure Scratch where
  env : Env
  k : Nat
  n : Nat
  timer : Nat

/-- `s` after a frame operation has appended these events and moved nothing but DC, its position and its scratch
registers. -/
def State.sent (s : State) (events : List Event) (pc : Pc) (dc : Level) (x : Scratch) : State :=
  { s with pc := pc, dc := dc, log := s.log ++ events, env := x.env, k := x.k, n := x.n, timer := x.timer }

/-- `m` steps of `i` from `s₀` reach `s` with exactly these events appended, at `pc` with this level of DC, and the panel
still gives these answers: the next writes, of these bytes, succeed, and the next samples are these. (`s` is `s₀` with the
registers that only the first step sets: RENDER's pixel index, CLEAR's operand byte.) -/
def Reaches (i : Instr) (s₀ s : State) (m : Nat) (events : List Event) (pc : Pc) (dc : Level) (writes : List (List Byte))
    (samples : List Level) : Prop :=
  ∃ x : Scratch, x.env.writesSucceed writes = true ∧ x.env.pollsGive samples = true ∧
    opRun i m s₀ = .next (s.sent events pc dc x)

section
variable {i : Instr} {s₀ s : State} {m n : Nat} {events : List Event} {pc next : Pc} {dc level : Level} {bytes : List Byte}
  {writes : List (List Byte)} {samples : List Level}

/-- A run whose first step is a DC level. -/
theorem Reaches.first (h : exec i s₀ = .next ((s.setLine .dc level).goto pc))
    (hw : s.env.writesSucceed writes = true) (hp : s.env.pollsGive samples = true) :
    Reaches i s₀ s 1 [.line .dc level] pc level writes samples := by
  refine ⟨⟨s.env, s.k, s.n, s.timer⟩, hw, hp, (opRun_of_exec h 0).trans ?_⟩
  simp [opRun, State.sent, State.setLine, State.emit, State.goto]

/-- A run that goes on with a DC level (R140). -/
theorem Reaches.line (h : Reaches i s₀ s m events pc dc writes samples)
    (hx : ∀ x, exec i (s.sent events pc dc x) = .next (((s.sent events pc dc x).setLine .dc level).goto next)) :
    Reaches i s₀ s (m + 1) (events ++ [.line .dc level]) next level writes samples := by
  obtain ⟨x, hw, hp, hrun⟩ := h
  refine ⟨x, hw, hp, (opRun_add hrun 1).trans ((opRun_of_exec (hx x) 0).trans ?_)⟩
  simp [opRun, State.sent, State.setLine, State.emit, State.goto]

/-- A run that goes on with a write, which succeeds (R142); RENDER's bulk write sets the pixel-pair index in the same
step. -/
theorem Reaches.write (h : Reaches i s₀ s m events pc dc (bytes :: writes) samples)
    (hx : ∀ x, ∃ k, exec i (s.sent events pc dc x) =
      .next ((s.sent events pc dc { x with k := k }).sendStep bytes next)) :
    Reaches i s₀ s (m + 1) (events ++ [.write dc bytes true]) next dc writes samples := by
  obtain ⟨x, hw, hp, hrun⟩ := h
  obtain ⟨hok, hw⟩ := Bool.and_eq_true_iff.mp hw
  obtain ⟨k, hk⟩ := hx x
  obtain ⟨hpolls, hn, -⟩ := x.env.drawWrite_frame bytes
  refine ⟨⟨(x.env.drawWrite bytes).2, k, x.n, x.timer⟩, hw, (Env.pollsGive_congr hpolls hn _).trans hp,
    (opRun_add hrun 1).trans ((opRun_of_exec hk 0).trans ?_)⟩
  simp [opRun, State.sendStep_eq, State.sent, hok]

/-- A run that goes on with a PollIdle, which returns after `r` busy samples (R148). -/
theorem Reaches.poll {wait again exit : Pc} {r : Nat} (loop : PollLoop i wait again exit)
    (hr : withinTimeout s.cfg r = true) (h : Reaches i s₀ s m events pc dc writes (pollSamples s.cfg r ++ samples))
    (hx : ∀ x, exec i (s.sent events pc dc x) = .next ((s.sent events pc dc x).pollStart wait exit)) :
    Reaches i s₀ s (m + (2 * r + 1)) (events ++ pollTrace s.cfg r) exit dc writes samples := by
  obtain ⟨x, hw, hp, hrun⟩ := h
  have hstart : exec i (s.sent events pc dc x) = exec i (s.sent events again dc { x with n := 0 }) := by
    rw [hx, loop.samples _ rfl]
    rfl
  obtain ⟨env, n, timer, hrest, hsame, hpoll⟩ := loop.returns (s := s.sent events again dc { x with n := 0 }) r rfl hp
    (by simpa [State.sent] using withinTimeout_iff.mp hr)
  refine ⟨⟨env, x.k, n, timer⟩, (hsame.writesSucceed _).trans hw, hrest,
    (opRun_add hrun _).trans ((opRun_congr hstart _).trans (hpoll.trans ?_))⟩
  simp [State.sent]

/-! ## Refresh() (R197) -/

/-- Two steps of Refresh() that send a byte: its DC level and its write (R143, R144). -/
theorem Reaches.refreshSend (hi : i.endsInRefresh)
    (h : Reaches i s₀ s m events (.handshake n) dc (bytes :: writes) samples)
    (hline : ∀ u : State, handshakeStep u n = .next ((u.setLine .dc level).goto (.handshake (n + 1))))
    (hwrite : ∀ u : State, u.cfg = s.cfg → handshakeStep u (n + 1) = .next (u.sendStep bytes (.handshake (n + 2)))) :
    Reaches i s₀ s (m + 2) (events ++ sentEvents level bytes) (.handshake (n + 2)) level writes samples := by
  have hsent := (h.line fun _ => (exec_handshake hi rfl).trans (hline _)).write
    fun x => ⟨x.k, (exec_handshake hi rfl).trans (hwrite _ rfl)⟩
  rwa [List.append_assoc] at hsent

/-- A PollIdle of Refresh() (R148). -/
theorem Reaches.refreshPoll {r : Nat} (hi : i.endsInRefresh) (hn : n = 2 ∨ n = 9 ∨ n = 16)
    (hr : withinTimeout s.cfg r = true)
    (h : Reaches i s₀ s m events (.handshake n) dc writes (pollSamples s.cfg r ++ samples)) :
    Reaches i s₀ s (m + (2 * r + 1)) (events ++ pollTrace s.cfg r) (.handshake (n + 3)) dc writes samples := by
  refine h.poll (pollLoop_handshake hi (k := n + 1) (by omega)) hr fun x => (exec_handshake hi rfl).trans ?_
  obtain rfl | rfl | rfl := hn <;> rfl

/-- The writes of Refresh(), in order (R197). -/
def refreshWrites (c : Config) : List (List Byte) :=
  [[c.cmdPowerOn], [c.cmdRefresh], [refreshData], [c.cmdPowerOff], [powerOffData]]

/-- The samples of the three polls of Refresh(), in order (R197). -/
def refreshSamples (c : Config) (r1 r2 r3 : Nat) : List Level := pollSamples c r1 ++ pollSamples c r2 ++ pollSamples c r3

/-- Refresh() from its first DC level on: its writes succeed, its polls return, and the operation completes (R197). -/
theorem Reaches.refresh {r1 r2 r3 : Nat} (hi : i.endsInRefresh)
    (h : Reaches i s₀ s m (events ++ [.line .dc false]) (.handshake 1) false (refreshWrites s.cfg)
      (refreshSamples s.cfg r1 r2 r3))
    (h1 : withinTimeout s.cfg r1 = true) (h2 : withinTimeout s.cfg r2 = true) (h3 : withinTimeout s.cfg r3 = true) :
    ∃ x, opRun i (m + 13 + 2 * (r1 + r2 + r3)) s₀ =
      .next (s.sent (events ++ refreshTrace s.cfg r1 r2 r3) (.handshake 19) true x).complete := by
  rw [refreshSamples, List.append_assoc, ← List.append_nil (pollSamples s.cfg r3)] at h
  have powerOn := (h.write fun x => ⟨x.k, exec_handshake (n := 1) hi rfl⟩).refreshPoll hi (.inl rfl) h1
  have refreshCmd := powerOn.refreshSend hi (fun _ => rfl) fun _ hc => hc ▸ rfl
  have refreshed := (refreshCmd.refreshSend hi (fun _ => rfl) fun _ _ => rfl).refreshPoll hi (.inr (.inl rfl)) h2
  have powerOffCmd := refreshed.refreshSend hi (fun _ => rfl) fun _ hc => hc ▸ rfl
  obtain ⟨x, -, -, hrun⟩ :=
    (powerOffCmd.refreshSend hi (fun _ => rfl) fun _ _ => rfl).refreshPoll hi (.inr (.inr rfl)) h3
  refine ⟨x, ?_⟩
  rw [show m + 13 + 2 * (r1 + r2 + r3) =
    m + 1 + (2 * r1 + 1) + 2 + 2 + (2 * r2 + 1) + 2 + 2 + (2 * r3 + 1) + 1 by omega, opRun_add hrun,
    opRun_of_exec (exec_handshake (n := 19) hi rfl)]
  simp [opRun, refreshTrace, sentEvents]

/-! ## REFRESH (R196) -/

/-- With the bus open REFRESH's first step is that of Refresh() (R196). -/
theorem execRefresh_starts (hpc : s.pc = .rule 0) (hb : s.busOpen = true) :
    exec .refresh s = .next ((s.setLine .dc false).goto (.handshake 1)) := by
  simp only [exec, execRefresh, hpc, State.gated_open hb]

/-! ## The frame of RENDER and CLEAR (R190, R199) -/

theorem exec_sendsDtm (hi : i = .render ∨ i = .clear) (hpc : s.pc = .rule 1) :
    exec i s = .next (s.sendStep [s.cfg.cmdDtm] (.rule 2)) := by
  obtain rfl | rfl := hi
  · simp only [exec, execRender, hpc]
  · simp only [exec, execClear, hpc]

theorem exec_startsBulk (hi : i = .render ∨ i = .clear) (hpc : s.pc = .rule 2) :
    exec i s = .next ((s.setLine .dc true).goto (.rule 3)) := by
  obtain rfl | rfl := hi
  · simp only [exec, execRender, hpc]
  · simp only [exec, execClear, hpc]

/-- RENDER and CLEAR after a first step that passed their checks: DTM, the bulk write, and Refresh() with its completion
(R190, R192, R193, R199). -/
theorem Reaches.frameAndRefresh {r1 r2 r3 : Nat} (hi : i = .render ∨ i = .clear)
    (h : Reaches i s₀ s 1 [.line .dc false] (.rule 1) false ([s.cfg.cmdDtm] :: bytes :: refreshWrites s.cfg)
      (refreshSamples s.cfg r1 r2 r3))
    (hbulk : ∀ events x, ∃ k, exec i (s.sent events (.rule 3) true x) =
      .next ((s.sent events (.rule 3) true { x with k := k }).sendStep bytes (.handshake 0)))
    (h1 : withinTimeout s.cfg r1 = true) (h2 : withinTimeout s.cfg r2 = true) (h3 : withinTimeout s.cfg r3 = true) :
    ∃ x, opRun i (18 + 2 * (r1 + r2 + r3)) s₀ =
      .next (s.sent (sentEvents false [s.cfg.cmdDtm] ++ sentEvents true bytes ++ refreshTrace s.cfg r1 r2 r3)
        (.handshake 19) true x).complete := by
  have hrefresh : i.endsInRefresh := hi.imp_right .inr
  have dtm := h.write fun x => ⟨x.k, exec_sendsDtm hi rfl⟩
  have bulk := (dtm.line fun _ => exec_startsBulk hi rfl).write fun x => hbulk _ x
  exact (bulk.line fun _ => exec_handshake (n := 0) hrefresh rfl).refresh hrefresh h1 h2 h3

/-- A canvas of 800×480 and its cells pass RENDER's checks, and with the bus open its first step is DTM's DC level
(R190, R191). -/
theorem execRender_starts (hpc : s.pc = .rule 0) (hb : s.busOpen = true) (hc : s.canvasMatches = true)
    (hv : ∀ a, a < npix → valid (Memory.read s.fb a) = true) :
    exec .render s = .next ((State.setLine { s with p := npix - 1 } .dc false).goto (.rule 1)) := by
  simp only [exec, execRender, hpc, hc, if_true, State.validated_ok hv, State.gated_open, hb]

/-- With a palette index and the bus open CLEAR's first step is DTM's DC level (R199). -/
theorem execClear_starts (hpc : s.pc = .rule 0) (hb : s.busOpen = true) (hv : valid s.argVal = true) :
    exec .clear s = .next ((State.setLine { s with opnd := s.argVal } .dc false).goto (.rule 1)) := by
  simp only [exec, execClear, hpc, hv, if_true, State.gated_open, hb]

end

/-! ## The whole runs -/

/-- Settles O36: REFRESH is Refresh() from its first step on. -/
theorem refreshRunsTheHandshake : Obligations.RefreshRunsTheHandshake := by
  intro s r1 r2 r3 hpc hb h1 h2 h3 hw hp
  have hstart := execRefresh_starts hpc hb
  obtain ⟨x, hrun⟩ := (Reaches.first hstart hw hp).refresh (events := []) (.inr (.inl rfl)) h1 h2 h3
  refine ⟨hstart, _, hrun, ?_, rfl, rfl, rfl, rfl, rfl, rfl, rfl, hb⟩
  simp [State.sent]

/-- Settles O35: RENDER's first step passes its checks; the frame and Refresh() follow. -/
theorem renderSendsTheFrameAndRefreshes : Obligations.RenderSendsTheFrameAndRefreshes := by
  intro s r1 r2 r3 hpc hb hw hh hcells h1 h2 h3 hwrites hpolls
  have hstart := execRender_starts hpc hb (State.canvasMatches_iff.mpr ⟨hw, hh⟩)
    fun a ha => valid_iff.mpr (hcells a ha)
  obtain ⟨x, hrun⟩ := (Reaches.first hstart hwrites hpolls).frameAndRefresh (.inl rfl)
    (fun _ _ => ⟨frameBytes - 1, rfl⟩) h1 h2 h3
  refine ⟨hstart, _, hrun, ?_, rfl, rfl, rfl, rfl, rfl, rfl, rfl, rfl, rfl, hb⟩
  simp [State.sent]

/-- Settles O38: CLEAR's first step passes its check; the fill, whose bytes are those of R125, and Refresh() follow. -/
theorem clearSendsOneColourAndRefreshes : Obligations.ClearSendsOneColourAndRefreshes := by
  intro s r1 r2 r3 hpc hb hval h1 h2 h3 hwrites hpolls
  rw [← (fillIsTheFrameOfOneColour s.argVal s.fb hval).1] at hwrites ⊢
  have hstart := execClear_starts hpc hb (valid_iff.mpr hval)
  obtain ⟨x, hrun⟩ := (Reaches.first hstart hwrites hpolls).frameAndRefresh (.inr rfl)
    (fun _ x => ⟨x.k, rfl⟩) h1 h2 h3
  refine ⟨hstart, _, hrun, ?_, rfl, rfl, rfl, rfl, rfl, rfl, rfl, rfl, rfl, rfl, rfl, hb⟩
  simp [State.sent]

end Sys2Proof.Machine
end

section
/-! PROOFS. SLEEP as a whole (45_sleep.md R210 to R213): the two deep-sleep bytes by the panel's answers, the teardown, and
the end of the session. -/

namespace Sys2Proof.Machine

section
variable {s : State}

/-! ## How SLEEP starts (R210, R223) -/

theorem State.sessionLive_iff : s.sessionLive = true ↔ s.fsm = .poweredUp ∨ s.fsm = .idle := by
  unfold State.sessionLive
  split <;> simp [*]

/-- Out of a session SLEEP is a SequenceError (R213, R223). -/
theorem execSleep_outOfSession (hpc : s.pc = .rule 0) (hf : s.fsm = .uninit ∨ s.fsm = .asleep) :
    exec .sleep s = .next (s.raise .sequenceError 0#2) := by
  have hl : s.sessionLive = false := by obtain hf | hf := hf <;> simp [State.sessionLive, hf]
  simp [exec, execSleep, hpc, hl]

/-- With the bus open SLEEP starts with the DC level of its command (R210). -/
theorem execSleep_open (hpc : s.pc = .rule 0) (hf : s.fsm = .poweredUp ∨ s.fsm = .idle) (hb : s.busOpen = true) :
    exec .sleep s = .next
      { s with errPending := false, dc := false, pc := .rule 1, log := s.log ++ [.line .dc false] } := by
  simp only [exec, execSleep, hpc, State.sessionLive_iff.mpr hf, hb]
  rfl

/-- With the bus closed SLEEP starts with its first line to release (R210, R212). -/
theorem execSleep_closed (hpc : s.pc = .rule 0) (hf : s.fsm = .poweredUp ∨ s.fsm = .idle) (hb : s.busOpen = false) :
    exec .sleep s = .next
      { s with errPending := false, rst := false, pc := .rule 7, log := s.log ++ [.line .rst false] } := by
  simp only [exec, execSleep, hpc, State.sessionLive_iff.mpr hf, hb]
  rfl

/-! ## The deep-sleep bytes (R152, R210, R211) -/

/-- SLEEP's command goes out with DC low; a failure is held pending and leads to the bus close. -/
theorem sleepSendsCommand (hpc : s.pc = .rule 0) (hf : s.fsm = .poweredUp ∨ s.fsm = .idle) (hb : s.busOpen = true)
    {ok : Bool} (hok : (s.env.drawWrite [s.cfg.cmdDeepSleep]).1 = ok) :
    opRun .sleep 2 s = .next
      { s with
        errPending := !ok
        dc := false
        pc := if ok then .rule 2 else .rule 5
        env := (s.env.drawWrite [s.cfg.cmdDeepSleep]).2
        log := s.log ++ [.line .dc false, .write false [s.cfg.cmdDeepSleep] ok] } := by
  rw [opRun_of_exec (execSleep_open hpc hf hb)]
  cases ok <;> simp [opRun, exec, execSleep, State.tryStep_eq, hok]

/-- SLEEP's data byte follows with DC high; a failure is held pending and leads to the bus close. -/
theorem sleepSendsData (hpc : s.pc = .rule 2) {ok : Bool} (hok : (s.env.drawWrite [deepSleepData]).1 = ok) :
    opRun .sleep 2 s = .next
      { s with
        errPending := if ok then s.errPending else true
        dc := true
        pc := if ok then .rule 4 else .rule 5
        env := (s.env.drawWrite [deepSleepData]).2
        log := s.log ++ [.line .dc true, .write true [deepSleepData] ok] } := by
  simp [opRun, exec, execSleep, hpc, State.setLine, State.emit, State.goto, State.tryStep_eq, hok]

/-- After its data byte SLEEP waits (R210). -/
theorem execSleep_waits (hpc : s.pc = .rule 4) : exec .sleep s = .next ((s.delay tSleep).goto (.rule 5)) := by
  simp only [exec, execSleep, hpc]

/-! ## The teardown and the end (R210 to R212) -/

/-- SLEEP's last step is a Done in ASLEEP, with the deferred failure or with ERR and DETAIL as held. -/
theorem State.sleepEnd_eq (s : State) :
    s.sleepEnd = State.raise { s with fsm := .asleep } (if s.errPending then .busIOFailure else s.err)
      (if s.errPending then writeFailed else s.detail) := by
  unfold State.sleepEnd
  split <;> rfl

/-- From RST's release on: DC and PWR are released, and SLEEP ends. -/
theorem sleepReleases (hpc : s.pc = .rule 7) :
    opRun .sleep 3 s = .next (State.sleepEnd
      { s with dc := false, pwr := false, pc := .rule 9, log := s.log ++ [.line .dc false, .line .pwr false] }) := by
  simp [opRun, exec, execSleep, hpc, State.setLine, State.emit, State.goto]

/-- The teardown in full, and SLEEP's end. -/
theorem sleepTearsDown (hpc : s.pc = .rule 5) :
    opRun .sleep 5 s = .next (State.sleepEnd
      { s with
        busOpen := false
        rst := false
        dc := false
        pwr := false
        pc := .rule 9
        log := s.log ++ [.close, .line .rst false, .line .dc false, .line .pwr false] }) := by
  have hrst : opRun .sleep 2 s = .next
      { s with busOpen := false, rst := false, pc := .rule 7, log := s.log ++ [.close, .line .rst false] } := by
    simp [opRun, exec, execSleep, hpc, State.busClose, State.setLine, State.emit, State.goto]
  rw [opRun_add hrst 3, sleepReleases rfl, List.append_assoc]
  rfl

end

/-- Settles O43: the step is SLEEP's last; after the issue both operations look at the FSM first. -/
theorem sleepEndsTheSessionOnce : Obligations.SleepEndsTheSessionOnce := by
  intro s t v hx hasleep hne
  have hstep := execSleep_fsm s
  rw [show execSleep s = .next t from hx, ensures_next] at hstep
  obtain hsame | ⟨-, -, hend⟩ := hstep
  · exact absurd (hsame.symm.trans hasleep) hne
  refine ⟨hend, fun hv => ?_, fun hv => ⟨_, execInit_powersUp rfl (.inr hasleep), rfl, ?_⟩⟩
  · rw [execSleep_outOfSession (s := t.issue v) rfl (.inr hasleep), State.raise_eq]
    simp [hv]
  · simp [hv]

/-- Settles O40: both bytes, the wait, the teardown. -/
theorem sleepSendsDeepSleepAndReleases : Obligations.SleepSendsDeepSleepAndReleases := by
  intro s hpc hf hb hw
  obtain ⟨hcmd, hdata⟩ := Bool.and_eq_true_iff.mp hw
  obtain ⟨hdata, -⟩ := Bool.and_eq_true_iff.mp hdata
  have hsent := (opRun_add (sleepSendsCommand hpc hf hb hcmd) 8).trans (opRun_add (sleepSendsData rfl hdata) 6)
  refine ⟨execSleep_open hpc hf hb, _,
    hsent.trans ((opRun_of_exec (execSleep_waits rfl) 5).trans (sleepTearsDown rfl)), ?_⟩
  simp [State.sleepEnd_eq, deepSleepData, tSleep]

/-- Settles O41: the teardown follows the byte that failed, the first or the second, with the failure pending. -/
theorem sleepTearsDownAfterAFailedWrite : Obligations.SleepTearsDownAfterAFailedWrite := by
  intro s hpc hf hb
  refine ⟨fun hcmd => ?_, fun hcmd hdata => ?_⟩
  · refine ⟨_, (opRun_add (sleepSendsCommand hpc hf hb hcmd) 5).trans (sleepTearsDown rfl), ?_⟩
    simp [State.sleepEnd_eq, writeFailed]
  · refine ⟨_, (opRun_add (sleepSendsCommand hpc hf hb hcmd) 7).trans
      ((opRun_add (sleepSendsData rfl hdata) 5).trans (sleepTearsDown rfl)), ?_⟩
    simp [State.sleepEnd_eq, writeFailed, deepSleepData]

/-- Settles O42: the first line, the other two, the end with nothing pending. -/
theorem sleepWithAClosedBusOnlyReleases : Obligations.SleepWithAClosedBusOnlyReleases := by
  intro s hpc hf hb
  have hstart := execSleep_closed hpc hf hb
  refine ⟨hstart, ?_⟩
  rw [opRun_of_exec hstart, sleepReleases rfl, State.sleepEnd_eq, State.raise_eq]
  simp

end Sys2Proof.Machine
end

section
/-! PROOFS. The first steps that raise (60_exceptions.md R222, R223), and how the step that ends an operation leaves the
flags, the lines, the bus and the FSM (R224, R226, R227, R229). -/

namespace Sys2Proof.Machine

section
variable {i : Instr} {s t : State} {e : Err} {d : BitVec 2}

/-! ## The first step that raises (R222, R223) -/

theorem execIllegal_raises (opc : BitVec 4) (hpc : s.pc = .rule 0) :
    exec (.illegal opc) s = .next (s.raise .illegalOp 0#2) := by
  simp only [exec, execIllegal, hpc]

/-- In a live session INIT is a SequenceError (R160, R223). -/
theorem execInit_inSession (hpc : s.pc = .rule 0) (hf : s.fsm = .poweredUp ∨ s.fsm = .idle) :
    exec .init s = .next (s.raise .sequenceError 0#2) := by
  simp only [exec, execInit, hpc, State.sessionLive_iff.mpr hf, if_true]

end

/-- Settles O44: the raise of the reserved codes' only step. -/
theorem reservedCodesRaiseIllegalOp : Obligations.ReservedCodesRaiseIllegalOp :=
  fun opc _ hpc => execIllegal_raises opc hpc

/-- Settles O26: both operations look at the session first. -/
theorem outOfOrderOperationsRaiseSequenceError : Obligations.OutOfOrderOperationsRaiseSequenceError :=
  fun _ hpc => ⟨execInit_inSession hpc, execSleep_outOfSession hpc⟩

/-- Settles O25: the samples are the rounds of WAIT_IDLE's poll loop, which no timeout ends. -/
theorem waitIdleHangsWhileBusy : Obligations.WaitIdleHangsWhileBusy := by
  intro s k hpc hb ha hnone hpolls
  cases k with
  | zero => exact ⟨s, rfl, ha, by simp [busyTrace]⟩
  | succ k =>
    obtain ⟨env, n, timer, -, -, hrun⟩ :=
      pollLoop_waitIdle.busyRounds (s := { s with n := 0, pc := .rule 2 }) (k + 1) (rest := []) rfl
        (by simpa using hpolls) (by simp [hnone])
    exact ⟨_, (opRun_congr (execWaitIdle_start hpc hb) _).trans (hrun 0), ha, rfl⟩

section
variable {i : Instr} {s t : State} {e : Err} {d : BitVec 2}

/-! ## The step that appends Done (R226, R229) -/

/-- The primitive of a step that appends Done is that Done. -/
theorem OpStep.of_done (h : OpStep i s t) (hlog : t.log = s.log ++ [.done e d]) : OwnUpdates i (s.raise e d) t := by
  obtain ⟨p, -, hu⟩ := h
  rw [hu.only] at hlog
  cases p with
  | done e' d' =>
    obtain ⟨rfl, rfl⟩ : e' = e ∧ d' = d := by simpa [State.perform] using hlog
    exact hu
  | setLine | busOpen | busWrite | busClose | sampleBusy | delay =>
    simp [State.perform, State.busWrite, State.sampleBusy] at hlog

theorem State.sessionLive_eq_false_iff : s.sessionLive = false ↔ s.fsm = .uninit ∨ s.fsm = .asleep := by
  unfold State.sessionLive
  split <;> simp [*]

/-- INIT's only step that moves the FSM and appends Done is its completion, with ERR as it was (R168). -/
theorem execInit_done_fsm (h : exec .init s = .next t) (hlog : t.log = s.log ++ [.done e d]) :
    t.fsm = s.fsm ∨ e = s.err := by
  have hstep := execInit_fsm s
  rw [show execInit s = .next t from h, ensures_next] at hstep
  obtain hsame | ⟨hpc, hl, -⟩ | ⟨hpc, -⟩ := hstep
  · exact .inl hsame
  · rw [execInit_powersUp hpc (State.sessionLive_eq_false_iff.mp hl)] at h
    obtain rfl := Host.Outcome.next.inj h
    simp at hlog
  · rw [execInit_completes hpc] at h
    obtain rfl := Host.Outcome.next.inj h
    obtain ⟨he, -⟩ : s.err = e ∧ s.detail = d := by simpa using hlog
    exact .inr he.symm

/-- Over a step that records an error only SLEEP's last moves the FSM (R211, R227). -/
theorem exec_error_fsm (h : exec i s = .next t) (hlog : t.log = s.log ++ [.done e d]) (hs : s.err = .noError)
    (he : e ≠ .noError) : t.fsm = s.fsm ∨ (i = .sleep ∧ s.pc = .rule 9) := by
  by_cases hinit : i = .init
  · subst hinit
    exact .inl ((execInit_done_fsm h hlog).resolve_right fun hsame => he (hsame.trans hs))
  by_cases hsleep : i = .sleep
  · subst hsleep
    have hstep := execSleep_fsm s
    rw [show execSleep s = .next t from h, ensures_next] at hstep
    exact hstep.imp_right fun ⟨hpc, _⟩ => ⟨rfl, hpc⟩
  · exact .inl ((exec_opStep h).session.1 hinit hsleep).1

end

/-- Settles O46: the step's only primitive is Done, and no operation updates a line, the bus or the answers by itself. -/
theorem abortsRollNothingBack : Obligations.AbortsRollNothingBack := by
  intro i s t e d h hlog
  obtain ⟨herr, hdetail, hactive, hpwr, hrst, hdc, hbus, henv⟩ : t.err = e ∧ t.detail = d ∧ t.active = false ∧
      t.pwr = s.pwr ∧ t.rst = s.rst ∧ t.dc = s.dc ∧ t.busOpen = s.busOpen ∧ t.env = s.env := by
    rw [((exec_opStep h).of_done hlog).only]
    exact ⟨rfl, rfl, rfl, rfl, rfl, rfl, rfl, rfl⟩
  exact ⟨herr, hdetail, hactive, hpwr, hrst, hdc, hbus, henv, exec_error_fsm h hlog⟩

end Sys2Proof.Machine
end

section
/-! PROOFS. The cause table (60_exceptions.md R224): what a step of an operation can record in ERR and DETAIL. -/

namespace Sys2Proof

/-- The errors that an operation's rule raises by itself, not at a raise that a failed primitive reached: its checks, the
bus gate, and SLEEP's deferred failure (R183, R190, R191, R199, R211, R222, R223). -/
def Instr.ownErrors : Instr → List (Machine.Err × BitVec 2)
  | .illegal _ => [(.illegalOp, 0#2)]
  | .init => [(.sequenceError, 0#2)]
  | .cmd | .data | .waitIdle | .refresh => [(.busIOFailure, Machine.notOpen)]
  | .render => [(.dimensionMismatch, 0#2), (.paletteMismatch, 0#2), (.busIOFailure, Machine.notOpen)]
  | .clear => [(.paletteMismatch, 0#2), (.busIOFailure, Machine.notOpen)]
  | .sleep => [(.sequenceError, 0#2), (.busIOFailure, Machine.writeFailed)]

/-- The details of the BusIOFailure that a failed primitive of the operation leads to. -/
def Instr.abortDetails : Instr → List (BitVec 2)
  | .illegal _ | .sleep => []
  | .init => [Machine.openFailed, Machine.writeFailed, Machine.busyTimeout]
  | .cmd | .data => [Machine.writeFailed]
  | .waitIdle => [Machine.busyTimeout]
  | .render | .refresh | .clear => [Machine.writeFailed, Machine.busyTimeout]

end Sys2Proof

namespace Sys2Proof.Machine

section
variable {i : Instr} {s t u : State} {e : Err} {d : BitVec 2}

/-- What ERR and DETAIL hold after a step of the operation `i`: what they held, the error of the raise position at which
the sequencer stood, or one that the rule raises by itself. -/
def Records (i : Instr) (s t : State) : Prop :=
  (t.err = s.err ∧ t.detail = s.detail) ∨ s.pc = .abort t.err t.detail ∨ (t.err, t.detail) ∈ i.ownErrors

theorem Records.same (herr : t.err = s.err) (hdetail : t.detail = s.detail) : Records i s t := .inl ⟨herr, hdetail⟩

theorem Records.atAbort (hpc : s.pc = .abort e d) : Records i s (s.raise e d) := .inr (.inl hpc)

theorem Records.own (h : (e, d) ∈ i.ownErrors) : Records i s (u.raise e d) := .inr (.inr h)

/-- The gate raises NOT_OPEN, or leaves the step to what follows it (R183). -/
theorem Records.gated {go : State → State} (h : (.busIOFailure, notOpen) ∈ i.ownErrors) (hgo : Records i s (go u)) :
    Records i s (u.gated go) := by
  cases hb : u.busOpen with
  | true => rwa [State.gated_open hb]
  | false => rw [State.gated_closed hb]; exact .own h

/-! ## The operations -/

/-- No step of Refresh() writes ERR or DETAIL: its failures are raised at a position of their own (R197, R228). -/
theorem handshakeStep_records (n : Nat) : Ensures (Records i s) (handshakeStep s n) := by
  cases h : handshakeStep s n with
  | next t =>
    obtain ⟨_, _, _, _, _, _, _, rfl⟩ := handshakeStep_frame h
    exact .same rfl rfl
  | fault | refused => trivial

theorem execIllegal_records (opc : BitVec 4) : Ensures (Records (.illegal opc) s) (execIllegal opc s) := by
  unfold execIllegal
  split
  case h_1 => exact .own (.head _)
  all_goals trivial

theorem execRaw_records {level : Level} (h : (.busIOFailure, notOpen) ∈ i.ownErrors) :
    Ensures (Records i s) (execRaw level s) := by
  unfold execRaw
  split
  case h_1 => exact .gated h (.same rfl rfl)
  case h_4 hpc => exact .atAbort hpc
  all_goals simp [Records]

theorem execWaitIdle_records : Ensures (Records .waitIdle s) (execWaitIdle s) := by
  unfold execWaitIdle
  split
  case h_1 => exact .gated (.head _) (.same (by simp) (by simp))
  case h_5 hpc => exact .atAbort hpc
  all_goals simp [Records]

theorem execRender_records : Ensures (Records .render s) (execRender s) := by
  unfold execRender
  split
  case h_1 =>
    split
    · cases hp : firstInvalidCell s.fb with
      | none =>
        rw [State.validated_ok (firstInvalidCell_none.mp hp)]
        exact .gated (by decide) (.same rfl rfl)
      | some p =>
        rw [State.validated_bad hp]
        exact .own (by decide)
    · exact .own (by decide)
  case h_5 => exact handshakeStep_records _
  case h_6 hpc => exact .atAbort hpc
  all_goals simp [Records]

theorem execRefresh_records : Ensures (Records .refresh s) (execRefresh s) := by
  unfold execRefresh
  split
  case h_1 => exact .gated (.head _) (.same rfl rfl)
  case h_2 => exact handshakeStep_records _
  case h_3 hpc => exact .atAbort hpc
  all_goals trivial

theorem execClear_records : Ensures (Records .clear s) (execClear s) := by
  unfold execClear
  split
  case h_1 =>
    split
    · exact .gated (by decide) (.same rfl rfl)
    · exact .own (by decide)
  case h_5 => exact handshakeStep_records _
  case h_6 hpc => exact .atAbort hpc
  all_goals simp [Records]

theorem execInit_records : Ensures (Records .init s) (execInit s) := by
  unfold execInit
  split
  case h_1 =>
    split
    · exact .own (.head _)
    · exact .same rfl rfl
  case h_14 => split <;> simp [Records]
  case h_16 =>
    split
    · split <;> simp [Records]
    · trivial
  case h_18 hpc => exact .atAbort hpc
  all_goals simp [Records]

theorem execSleep_records : Ensures (Records .sleep s) (execSleep s) := by
  unfold execSleep
  split
  case h_1 =>
    split
    · split <;> exact .same rfl rfl
    · exact .own (by decide)
  case h_10 =>
    rw [ensures_next, State.sleepEnd_eq]
    split
    · exact .own (by decide)
    · exact .same rfl rfl
  all_goals simp [Records]

/-- What a step of an operation records in ERR and DETAIL. -/
theorem exec_ensures_records (i : Instr) (s : State) : Ensures (Records i s) (exec i s) := by
  cases i with
  | illegal opc => exact execIllegal_records opc
  | init => exact execInit_records
  | cmd => exact execRaw_records (level := false) (.head _)
  | data => exact execRaw_records (level := true) (.head _)
  | waitIdle => exact execWaitIdle_records
  | render => exact execRender_records
  | refresh => exact execRefresh_records
  | clear => exact execClear_records
  | sleep => exact execSleep_records

/-! ## The raises of failed primitives, by operation (R224, R228) -/

theorem abort_of_positionOk (h : positionOk s) (hpc : s.pc = .abort e d) :
    e = .busIOFailure ∧ d ∈ (decodeOpc s.op).abortDetails := by
  cases hop : decodeOpc s.op with
  | illegal opc => simp [positionOk, hop, hpc] at h
  | init =>
    rw [positionOk_init hop, initOk, hpc] at h
    obtain ⟨he, -, -, ⟨rfl, -⟩ | ⟨rfl, -⟩ | ⟨rfl, -⟩⟩ := h <;> exact ⟨he, by decide⟩
  | cmd =>
    rw [positionOk_raw (.inl ⟨hop, rfl⟩), rawOk, hpc] at h
    exact ⟨h.1, List.mem_singleton.mpr h.2.1⟩
  | data =>
    rw [positionOk_raw (.inr ⟨hop, rfl⟩), rawOk, hpc] at h
    exact ⟨h.1, List.mem_singleton.mpr h.2.1⟩
  | waitIdle =>
    simp only [positionOk, hop, waitOk, hpc] at h
    exact ⟨h.1, List.mem_singleton.mpr h.2.1⟩
  | render | refresh | clear =>
    obtain ⟨⟨he, hd⟩, -⟩ := (positionOk_frameAbort (by simp [Refreshes, hop]) hpc).mp h
    exact ⟨he, by simpa [Instr.abortDetails] using hd⟩
  | sleep => simp [positionOk, hop, sleepOk, hpc] at h

/-- In a good state a step leaves ERR and DETAIL 0, or records the error of a failed primitive, or one that the rule raises
by itself. -/
theorem State.Inv.records (hi : s.Inv) (ha : s.active = true) (hx : exec (decodeOpc s.op) s = .next t) :
    (t.err = .noError ∧ t.detail = 0#2) ∨ (t.err = .busIOFailure ∧ t.detail ∈ (decodeOpc s.op).abortDetails) ∨
      (t.err, t.detail) ∈ (decodeOpc s.op).ownErrors := by
  obtain ⟨herr, hdetail, -⟩ := hi.flags.clearWhileActive ha
  have hrec := exec_ensures_records (decodeOpc s.op) s
  rw [hx, ensures_next, Records, herr, hdetail] at hrec
  exact hrec.imp_right (Or.imp_left (abort_of_positionOk (hi.position ha)))

end

/-- Settles O47: a reserved code has only its raise; each other operation's row is its own errors and those of its failed
primitives. -/
theorem errorsAreThoseOfTheCauseTable : Obligations.ErrorsAreThoseOfTheCauseTable := by
  intro s t hi ha hx _
  have hrec := hi.records ha hx
  cases hop : decodeOpc s.op with
  | illegal opc =>
    have hpc : s.pc = .rule 0 := by simpa [positionOk, hop] using hi.position ha
    rw [hop, execIllegal_raises opc hpc] at hx
    obtain rfl := Host.Outcome.next.inj hx
    exact ⟨rfl, rfl⟩
  | init | cmd | data | waitIdle | render | refresh | clear | sleep =>
    simp only [hop, Instr.abortDetails, Instr.ownErrors, openFailed, writeFailed, notOpen, busyTimeout, List.mem_cons,
      List.not_mem_nil, Prod.mk.injEq] at hrec ⊢
    tauto

end Sys2Proof.Machine
end

section
/-! PROOFS. A good state always steps (60_exceptions.md R226, R229, R231): the sequencer stands at a step of its rule, and
INIT's table holds what that step sends (log entry 9). -/

namespace Sys2Proof.Machine

section
variable {s : State} {level : Level}

/-! ## The operations: a position at which the rule has no step is none of a good state's -/

theorem handshakeStep_steps {n : Nat} (hn : n ≤ 19) : ∃ t, handshakeStep s n = .next t := by
  interval_cases n <;> exact ⟨_, rfl⟩

theorem execRaw_steps (h : rawOk s level) : ∃ t, execRaw level s = .next t := by
  unfold execRaw
  split
  case h_5 | h_6 => grind [rawOk]
  all_goals simp

theorem execWaitIdle_steps (h : waitOk s) : ∃ t, execWaitIdle s = .next t := by
  unfold execWaitIdle
  split
  case h_6 | h_7 => grind [waitOk]
  all_goals simp

theorem execRender_steps {bulk : Prop} (h : frameOk s bulk) : ∃ t, execRender s = .next t := by
  unfold execRender
  split
  case h_1 => split <;> simp
  case h_5 hpc =>
    rw [frameOk, hpc] at h
    exact handshakeStep_steps h.1
  case h_7 => grind [frameOk]
  all_goals simp

theorem execClear_steps {bulk : Prop} (h : frameOk s bulk) : ∃ t, execClear s = .next t := by
  unfold execClear
  split
  case h_1 => split <;> simp
  case h_5 hpc =>
    rw [frameOk, hpc] at h
    exact handshakeStep_steps h.1
  case h_7 => grind [frameOk]
  all_goals simp

theorem execRefresh_steps (h : refreshOk s) : ∃ t, execRefresh s = .next t := by
  unfold execRefresh
  split
  case h_2 hpc =>
    rw [refreshOk, hpc] at h
    exact handshakeStep_steps h.1
  case h_4 => grind [refreshOk]
  all_goals simp

theorem execSleep_steps (h : sleepOk s) : ∃ t, execSleep s = .next t := by
  unfold execSleep
  split
  case h_1 =>
    split
    · split <;> simp
    · simp
  case h_11 | h_12 | h_13 => grind [sleepOk]
  all_goals simp

/-- The table has an entry at every index of INIT (R97), and a byte at the index of its data step. -/
theorem execInit_steps (hi : s.Inv) (h : initOk s) : ∃ t, execInit s = .next t := by
  obtain ⟨e, he⟩ := configOk_entry hi.config hi.counters.entry
  unfold execInit
  split
  case h_1 => split <;> simp
  case h_14 => simp [he]
  case h_16 hpc =>
    rw [initOk, hpc] at h
    obtain ⟨-, -, -, -, -, -, -, -, hbyte⟩ := h
    obtain ⟨_, he', hj⟩ := hbyte (.inr rfl)
    obtain rfl := Option.some.inj (he.symm.trans he')
    simp [he, List.getElem?_eq_getElem hj]
  case h_19 | h_20 => grind [initOk]
  all_goals simp

/-- In a good state the active operation has a step. -/
theorem exec_steps (hi : s.Inv) (ha : s.active = true) : ∃ t, exec (decodeOpc s.op) s = .next t := by
  have hpos := hi.position ha
  unfold positionOk at hpos
  cases hop : decodeOpc s.op <;> simp only [hop] at hpos
  case illegal opc => exact ⟨_, execIllegal_raises opc hpos⟩
  case init => exact execInit_steps hi hpos
  case cmd | data => exact execRaw_steps hpos
  case waitIdle => exact execWaitIdle_steps hpos
  case render => exact execRender_steps hpos
  case refresh => exact execRefresh_steps hpos
  case clear => exact execClear_steps hpos
  case sleep => exact execSleep_steps hpos

end

theorem step_of_blockReset {s : State} {contents : List Host.Cell} (h : s.mover = .blockReset contents) :
    step s = .next (s.turnTaken.blockReset contents) := by
  simp [step, State.agentStep, h]

/-- Settles O57: by the agent that moves; the host's step and the block reset cannot stop. -/
theorem goodStatesAlwaysStep : Obligations.GoodStatesAlwaysStep := by
  intro s hi
  cases hm : s.mover with
  | sequencer =>
    rw [step_of_sequencer hm, ← s.turnTaken_op]
    exact exec_steps hi.turnTaken (s.turnTaken_active.trans (State.mover_sequencer hm))
  | host => exact ⟨_, step_of_host hm⟩
  | blockReset contents => exact ⟨_, step_of_blockReset hm⟩

end Sys2Proof.Machine
end

section
/-! PROOFS. The reset (70_reset_and_hazards.md R251, R252): the framebuffer may come out of it with any contents, which
then stay until the host writes them, and every other field has its reset value. -/

namespace Sys2Proof.Machine

/-! ## The contents that a block reset leaves (R251) -/

/-- The first `n` cells, listed with the bytes that `f` gives them. -/
def listedCells (f : Nat → Byte) (n : Nat) : List Host.Cell := (List.range n).map fun a => (a, f a)

theorem listedCells_succ (f : Nat → Byte) (n : Nat) : listedCells f (n + 1) = listedCells f n ++ [(n, f n)] := by
  simp [listedCells, List.range_succ]

/-- A later cell of the list is written over the earlier ones. -/
theorem Memory.ofCells_concat (cells : List Host.Cell) {c : Host.Cell} (hc : c.1 < npix) :
    Memory.ofCells (cells ++ [c]) = Memory.write (Memory.ofCells cells) c.1 c.2 := by
  simp [Memory.ofCells, hc]

/-- Cells listed with the bytes of `f` read as `f` says. -/
theorem Memory.read_ofCells_listedCells (f : Nat → Byte) {n : Nat} (hn : n ≤ npix) {a : Nat} (ha : a < n) :
    Memory.read (Memory.ofCells (listedCells f n)) a = f a := by
  induction n with
  | zero => omega
  | succ n ih =>
    rw [listedCells_succ, Memory.ofCells_concat (c := (n, f n)) _ hn, Memory.read_write (Memory.wf_ofCells _)]
    split_ifs with h
    · rw [h]
    · exact ih (by omega) (by omega)

@[simp] theorem State.blockReset_fb (s : State) (contents : List Host.Cell) :
    (s.blockReset contents).fb = Memory.ofCells contents := rfl

theorem exists_blockReset_contents (f : Nat → Byte) :
    ∃ contents : List Host.Cell, ∀ (s : State) (a : Nat), a < npix → Memory.read (s.blockReset contents).fb a = f a := by
  refine ⟨listedCells f npix, fun s a ha => ?_⟩
  rw [State.blockReset_fb]
  exact Memory.read_ofCells_listedCells f le_rfl ha

/-! ## The steps that leave the framebuffer as it is (R251) -/

@[simp] theorem State.hostRead_fb (s : State) (addr n : Nat) : (s.hostRead addr n).fb = s.fb := by
  obtain ⟨_, _, _, h⟩ := hostReadsHaveNoSideEffect s addr n
  rw [h]

/-- Of the host's accesses only a write may touch the framebuffer. -/
theorem State.hostStep_fb {s : State} (h : ∀ addr n v items, s.hostProg ≠ .write addr n v :: items) :
    s.hostStep.fb = s.fb := by
  cases hp : s.hostProg with
  | nil => rw [State.hostStep_nil hp]
  | cons item items =>
    cases item with
    | write addr n v => exact absurd hp (h addr n v items)
    | read addr n => simp [State.hostStep, hp]
    | wait => simp [State.hostStep_wait hp]

/-- Settles O15: a block reset may list every cell, no operation writes the framebuffer, and of the host only its writes
do. -/
theorem framebufferAfterResetIsAnyAndStable : Obligations.FramebufferAfterResetIsAnyAndStable := by
  refine ⟨exists_blockReset_contents, fun s t h hsched hhost => ?_⟩
  obtain ⟨contents, rest, hs, -⟩ | ⟨-, -, hx⟩ | ⟨-, rfl⟩ := step_cases h
  · exact absurd hs (hsched contents rest)
  · obtain ⟨-, -, -, -, -, -, hfb, -⟩ := (exec_opStep hx).frame
    rw [hfb, s.turnTaken_fb]
  · rw [State.hostStep_fb (s.turnTaken_hostProg ▸ hhost), s.turnTaken_fb]

/-! ## The reset values (R252) -/

theorem State.statusWord_blockReset (s : State) (contents : List Host.Cell) (b : Level) :
    (s.blockReset contents).statusWord b = State.reset.statusWord b := rfl

/-- After a reset STATUS reads 0 but for the live level of BUSY_IN, bit 20. -/
theorem State.statusWord_reset (b : Level) :
    State.reset.statusWord b = if b then 0x00100000#32 else 0x00000000#32 := by
  cases b <;> decide

/-- Settles O13: each field has the value that the reset gives it, and OP and STATUS read what follows from these. -/
theorem resetValues : Obligations.ResetValues := by
  refine ⟨exists_blockReset_contents, fun s contents t ht => ?_⟩
  obtain ⟨hop, -⟩ := registersReadBackAsDescribed t 0#32
  have hstatus : ∀ b, t.statusWord b = if b then 0x00100000#32 else 0x00000000#32 := by
    obtain rfl | rfl := ht
    · exact fun b => (s.statusWord_blockReset contents b).trans (State.statusWord_reset b)
    · exact State.statusWord_reset
  refine ⟨congrArg State.resp hop, ?_⟩
  obtain rfl | rfl := ht <;>
    exact ⟨rfl, rfl, rfl, rfl, rfl, rfl, rfl, rfl, rfl, rfl, rfl, rfl, rfl, hstatus false, hstatus true⟩

end Sys2Proof.Machine
end
